-- ==== Sys2Proof/Word.lean ====
section
/-! DEFINITION. The words of the block: bytes, the 64-bit words of the request port and the timer, and the
11-byte outbound frame. -/

namespace Sys2Proof

/-- A byte: an integer 0 to 255 (00_scope.md R9). -/
abbrev Byte := BitVec 8

/-- A 64-bit word: a request word (30_encoding.md R70), a nanosecond value (10_state.md R21) or `RES` (R39). -/
abbrev Word64 := BitVec 64

/-- An outbound frame: exactly `TX_LEN` = 11 bytes, index 0 transmitted first (00_scope.md R6, R9). -/
abbrev Frame := Vector Byte 11

end Sys2Proof
end

