-- ==== Sys2Proof/Syntax.lean ====
section
/-! DEFINITION. The closed enumerations of 00_scope.md R13, the request of 30_encoding.md R70, the 27 operations of
30_encoding.md R72 (one constructor of `Instr` per row of opcode_table.json) and the seven pseudo-operations of R90. -/

namespace Sys2Proof

/-- The race state (00_scope.md R13). -/
inductive RaceState where
  | stopped | running | paused | flaggedLc | flaggedNolc
deriving DecidableEq, Repr, Inhabited

/-- Pit-lane trigger edge (00_scope.md R13). -/
inductive PitTrigger where
  | enter | leave
deriving DecidableEq, Repr, Inhabited

/-- Pit-lane count enable (00_scope.md R13). -/
inductive PitCount where
  | disabled | enabled
deriving DecidableEq, Repr, Inhabited

/-- Power-report mode (00_scope.md R13). -/
inductive PowerMode where
  | triggerPosition | pwm
deriving DecidableEq, Repr, Inhabited

/-- Command opcodes, in the source's listing order (00_scope.md R13). -/
inductive CmdOp where
  | noAction | setPitSpeed | setMaxSpeed | setMinSpeed | setRfLevel | setMaxBrake | setMinLapTime
deriving DecidableEq, Repr, Inhabited

/-- What the host presents at the request port: a 64-bit word and the buffer operand of the separate buffer port
(30_encoding.md R70). -/
structure Request where
  word : Word64
  buf : List Byte
deriving DecidableEq, Repr, Inhabited

/-- The operations (30_encoding.md R72). Operands are the raw operand bytes: a byte outside its legal set decodes,
and the operation then faults (R73). DEC_TEL and DEC_FW carry the buffer operand, which they alone read (R70). -/
inductive Instr where
  | decTel (buf : List Byte)
  | decFw (buf : List Byte)
  | unpack
  | encStatus (tb0 tb1 tb2 : Byte)
  | encCmd (id opsel arg tb0 tb1 tb2 : Byte)
  | encFwreq
  | encFree
  | tStart
  | tPause
  | tResume
  | tStop
  | tValue
  | tValueCs
  | tBytes
  | update
  | rdCar (id : Byte)
  | setState (ssel : Byte)
  | setSpeed (speed : Byte)
  | setConfig (trig count mode : Byte)
  | sendStatus
  | sendCmd (id opsel arg : Byte)
  | sendFwreq
  | sendFree
  | init (ssel speed trig count mode : Byte)
  | poll
  | flush
  | rxFw
deriving DecidableEq, Repr

/-- The pseudo-operations of 30_encoding.md R90: spellings of SEND_CMD. -/
inductive Pseudo where
  | setPitSpeed (id v : Byte)
  | setCarMaxSpeed (id v : Byte)
  | setCarMinSpeed (id v : Byte)
  | setRfLevel (id v : Byte)
  | setMaxBrake (id v : Byte)
  | setMinLapTime (id v : Byte)
  | sendNop (id : Byte)
deriving DecidableEq, Repr

end Sys2Proof
end

