-- ==== Sys2Proof/Config.lean ====
section
/-! DEFINITION. The parameters the source fixes (00_scope.md R6, R8), the parameters it leaves open (R7) as one opaque
record, and the free value that stands for the outside world's moves (log 1). -/

namespace Sys2Proof.Config

/-- `RX_TEL_LEN`: bytes in a telemetry frame (00_scope.md R6). -/
def rxTelLen : Nat := 13
/-- `RX_FW_LEN`: bytes in a firmware frame (00_scope.md R6). -/
def rxFwLen : Nat := 5
/-- `MAX_CAR_ID`: the largest car id (00_scope.md R6). -/
def maxCarId : Nat := 20
/-- `NS_PER_CS`: nanoseconds per centisecond (00_scope.md R6). -/
def nsPerCs : Nat := 10000000
/-- `HBUF_MAX`: largest length of a buffer operand (00_scope.md R8). -/
def hbufMax : Nat := 255

/-- The open parameters of 00_scope.md R7. `cmdLow` gives the seven low bits of the six opcodes the source does not
number; `Params.cmdCode` turns it into `CMD_CODE`. -/
structure Params where
  rsCode : RaceState → Byte
  pitCountBits : PitCount → Byte
  pitTrigBits : PitTrigger → Byte
  powerModeBits : PowerMode → Byte
  cmdLow : CmdOp → BitVec 7
  suppressFirstFrameEvents : Bool
deriving Inhabited

/-- `CMD_CODE` with its two laws built in: `no_action` is 0 (41_codec_tx.md R122) and every code is below 0x80 (R123). -/
def Params.cmdCode (p : Params) : CmdOp → Byte
  | .noAction => 0x00#8
  | op => (p.cmdLow op).setWidth 8

/-- The parameters of this instance of the block: fixed before the first request (70_reset_and_hazards.md R252), and
free, since no rule fixes their values (00_scope.md R7). DESIGN CHOICE, safe: log 12. -/
opaque params : Params

/-- What `RES` takes from a flush of `n` bytes when `n` does not fit its 64 bits: a free value, since no rule states it
(45_rxpath.md R203, 10_state.md R39). DESIGN CHOICE, safe: log 13. -/
opaque freeFlushCount (n : Nat) : Word64

/-- One move of the outside world between two steps: the next value of the time input, the bytes the dongle appends,
whether the next operation's `Read` and `Write` succeed, and the requests the host presents
(10_state.md R24; 20_memory.md R53, R61, R62). -/
structure Moment where
  now : Word64
  rx : List Byte
  readOk : Bool
  writeOk : Bool
  reqs : List Request
deriving DecidableEq, Repr, Inhabited

/-- The outside world's move number `k`, once the moves listed in the state are used up: a free value
(93_implementation_defined.md U11 to U14). DESIGN CHOICE, safe: log 1. -/
opaque freeMoment : Nat → Moment

end Sys2Proof.Config
end

