-- ==== Sys2Proof/WellFormed.lean ====
section
/-! DEFINITION. Which operations can be presented at the request port (30_encoding.md R70), and which have every operand
in its legal set (R73). -/

namespace Sys2Proof

/-- The buffer port carries at most `HBUF_MAX` = 255 bytes (00_scope.md R8, 30_encoding.md R70); every operand byte is
a byte by type. -/
def Instr.WellFormed : Instr → Bool
  | .decTel buf => decide (buf.length ≤ Config.hbufMax)
  | .decFw buf => decide (buf.length ≤ Config.hbufMax)
  | _ => true

/-- Every operand is in the legal set of 30_encoding.md R73. An operation that is not legal decodes and then faults. -/
def Instr.Legal : Instr → Bool
  | .encCmd id opsel _ _ _ _ => decide (id.toNat ≤ 20) && decide (opsel.toNat ≤ 6)
  | .rdCar id => decide (id.toNat ≤ 20)
  | .setState ssel => decide (ssel.toNat ≤ 4)
  | .setConfig trig count mode => decide (trig.toNat ≤ 1) && decide (count.toNat ≤ 1) && decide (mode.toNat ≤ 1)
  | .sendCmd id opsel _ => decide (id.toNat ≤ 20) && decide (opsel.toNat ≤ 6)
  | .init ssel _ trig count mode =>
      decide (ssel.toNat ≤ 4) && decide (trig.toNat ≤ 1) && decide (count.toNat ≤ 1) && decide (mode.toNat ≤ 1)
  | _ => true

end Sys2Proof
end

