-- ==== Sys2Proof/Decode.lean ====
section
/-! DEFINITION. The request decoder, total on every 64-bit word (30_encoding.md R70 to R74), the encoder written from
the same formats, the host's `decodeTableWord`, and the expansion of the pseudo-operations (R90). -/

namespace Sys2Proof

/-- The request formats of 30_encoding.md R71. -/
inductive Fmt where
  | z | zb | a | b | e | c
deriving DecidableEq, Repr

/-- Why a request is illegal (30_encoding.md R74); both raise `IllegalOpError`. -/
inductive DecodeError where
  /-- `op` is not in the operation map. -/
  | unassignedOp
  /-- A reserved byte, `rsv` included, is not zero. -/
  | reservedByte
deriving DecidableEq, Repr

/-- The bits of the word that must equal the row's match (30_encoding.md R71). -/
def fmtMask : Fmt → Word64
  | .z => 0xFFFFFFFFFFFFFFFF#64
  | .zb => 0xFFFFFFFFFFFFFFFF#64
  | .a => 0xFF00FFFFFFFFFFFF#64
  | .b => 0xFF000000FFFFFFFF#64
  | .e => 0xFF0000000000FFFF#64
  | .c => 0xFF000000000000FF#64

/-- The byte of a word whose lowest bit is bit `lo`. -/
def byteAt (w : Word64) (lo : Nat) : Byte := w.extractLsb' lo 8

/-- The operation map (30_encoding.md R72): the format and the operation of each assigned `op` value. -/
def opMap (op p0 p1 p2 p3 p4 p5 : Byte) (buf : List Byte) : Option (Fmt × Instr) :=
  match op.toNat with
  | 0x01 => some (.zb, .decTel buf)
  | 0x02 => some (.zb, .decFw buf)
  | 0x03 => some (.z, .unpack)
  | 0x04 => some (.b, .encStatus p0 p1 p2)
  | 0x05 => some (.c, .encCmd p0 p1 p2 p3 p4 p5)
  | 0x06 => some (.z, .encFwreq)
  | 0x07 => some (.z, .encFree)
  | 0x10 => some (.z, .tStart)
  | 0x11 => some (.z, .tPause)
  | 0x12 => some (.z, .tResume)
  | 0x13 => some (.z, .tStop)
  | 0x14 => some (.z, .tValue)
  | 0x15 => some (.z, .tValueCs)
  | 0x16 => some (.z, .tBytes)
  | 0x20 => some (.z, .update)
  | 0x21 => some (.a, .rdCar p0)
  | 0x30 => some (.a, .setState p0)
  | 0x31 => some (.a, .setSpeed p0)
  | 0x32 => some (.b, .setConfig p0 p1 p2)
  | 0x33 => some (.z, .sendStatus)
  | 0x34 => some (.b, .sendCmd p0 p1 p2)
  | 0x35 => some (.z, .sendFwreq)
  | 0x36 => some (.z, .sendFree)
  | 0x37 => some (.e, .init p0 p1 p2 p3 p4)
  | 0x40 => some (.z, .poll)
  | 0x41 => some (.z, .flush)
  | 0x42 => some (.z, .rxFw)
  | _ => none

/-- Decode a request: the row of the operation map for which `(req & mask) = match`, or the reason there is none
(30_encoding.md R71, R74). Every operation but DEC_TEL and DEC_FW ignores the buffer (R70). -/
def decode (r : Request) : Except DecodeError Instr :=
  let op := byteAt r.word 56
  match opMap op (byteAt r.word 48) (byteAt r.word 40) (byteAt r.word 32) (byteAt r.word 24) (byteAt r.word 16)
      (byteAt r.word 8) r.buf with
  | none => .error .unassignedOp
  | some (f, i) => if r.word &&& fmtMask f = op.setWidth 64 <<< 56 then .ok i else .error .reservedByte

/-- The request word of an `op` value and six operand bytes, `rsv` zero (30_encoding.md R70). -/
def packWord (op p0 p1 p2 p3 p4 p5 : Byte) : Word64 :=
  op ++ p0 ++ p1 ++ p2 ++ p3 ++ p4 ++ p5 ++ 0x00#8

/-- The request of an operation (30_encoding.md R70 to R72): unused operand bytes are zero, and no buffer is presented
to an operation that reads none. -/
def encode : Instr → Request
  | .decTel buf => ⟨packWord 0x01 0 0 0 0 0 0, buf⟩
  | .decFw buf => ⟨packWord 0x02 0 0 0 0 0 0, buf⟩
  | .unpack => ⟨packWord 0x03 0 0 0 0 0 0, []⟩
  | .encStatus tb0 tb1 tb2 => ⟨packWord 0x04 tb0 tb1 tb2 0 0 0, []⟩
  | .encCmd id opsel arg tb0 tb1 tb2 => ⟨packWord 0x05 id opsel arg tb0 tb1 tb2, []⟩
  | .encFwreq => ⟨packWord 0x06 0 0 0 0 0 0, []⟩
  | .encFree => ⟨packWord 0x07 0 0 0 0 0 0, []⟩
  | .tStart => ⟨packWord 0x10 0 0 0 0 0 0, []⟩
  | .tPause => ⟨packWord 0x11 0 0 0 0 0 0, []⟩
  | .tResume => ⟨packWord 0x12 0 0 0 0 0 0, []⟩
  | .tStop => ⟨packWord 0x13 0 0 0 0 0 0, []⟩
  | .tValue => ⟨packWord 0x14 0 0 0 0 0 0, []⟩
  | .tValueCs => ⟨packWord 0x15 0 0 0 0 0 0, []⟩
  | .tBytes => ⟨packWord 0x16 0 0 0 0 0 0, []⟩
  | .update => ⟨packWord 0x20 0 0 0 0 0 0, []⟩
  | .rdCar id => ⟨packWord 0x21 id 0 0 0 0 0, []⟩
  | .setState ssel => ⟨packWord 0x30 ssel 0 0 0 0 0, []⟩
  | .setSpeed speed => ⟨packWord 0x31 speed 0 0 0 0 0, []⟩
  | .setConfig trig count mode => ⟨packWord 0x32 trig count mode 0 0 0, []⟩
  | .sendStatus => ⟨packWord 0x33 0 0 0 0 0 0, []⟩
  | .sendCmd id opsel arg => ⟨packWord 0x34 id opsel arg 0 0 0, []⟩
  | .sendFwreq => ⟨packWord 0x35 0 0 0 0 0 0, []⟩
  | .sendFree => ⟨packWord 0x36 0 0 0 0 0 0, []⟩
  | .init ssel speed trig count mode => ⟨packWord 0x37 ssel speed trig count mode 0, []⟩
  | .poll => ⟨packWord 0x40 0 0 0 0 0 0, []⟩
  | .flush => ⟨packWord 0x41 0 0 0 0 0 0, []⟩
  | .rxFw => ⟨packWord 0x42 0 0 0 0 0 0, []⟩

/-- The request whose word the opcode table numbers `w`, of `nbits` bits: the table's bit 0 is the word's bit 0
(30_encoding.md R70), the bits above `nbits` are 0, and no buffer is presented. -/
def tableRequest (nbits w : Nat) : Request := ⟨BitVec.ofNat 64 (w % 2 ^ nbits), []⟩

/-- What the decoder reads from a word of the opcode table. -/
def decodeTableWord (nbits w : Nat) : Option Instr :=
  match decode (tableRequest nbits w) with
  | .ok i => some i
  | .error _ => none

/-- The expansion of a pseudo-operation (30_encoding.md R90), with the opcode selectors of R73. -/
def expandPseudo : Pseudo → Instr
  | .setPitSpeed id v => .sendCmd id 1 v
  | .setCarMaxSpeed id v => .sendCmd id 2 v
  | .setCarMinSpeed id v => .sendCmd id 3 v
  | .setRfLevel id v => .sendCmd id 4 v
  | .setMaxBrake id v => .sendCmd id 5 v
  | .setMinLapTime id v => .sendCmd id 6 v
  | .sendNop id => .sendCmd id 0 0

end Sys2Proof
end

