-- ==== Sys2Proof/Machine/State.lean ====
section
/-! DEFINITION. The state of the block (10_state.md R20) with the external streams and inputs it works on, the reasons a
step can stop, and the state after reset (10_state.md R45). -/

namespace Sys2Proof.Machine

open Sys2Proof

/-- The race timer's registers (10_state.md R21). -/
structure Timer where
  running : Bool
  start : Word64
  pacc : Word64
  sacc : Word64
deriving DecidableEq, Repr

/-- RaceStatus: `RS.state`, `RS.speed` (10_state.md R25). -/
structure RaceStatus where
  state : RaceState
  speed : Byte
deriving DecidableEq, Repr

/-- SystemConfig: `SC.trig`, `SC.count`, `SC.mode` (10_state.md R25). -/
structure SystemConfig where
  trig : PitTrigger
  count : PitCount
  mode : PowerMode
deriving DecidableEq, Repr

/-- A CarState record: the fifteen fields of 10_state.md R31. `ts` is a 25-bit two's-complement number. -/
structure CarState where
  reset : Bool
  link : Bool
  inPit : Bool
  id : Byte
  lapTicks : BitVec 16
  lapCount : BitVec 16
  powerRaw : BitVec 7
  onTrack : Bool
  battLow : Bool
  trackCall : Bool
  lapShort : Bool
  up : Bool
  down : Bool
  round : Bool
  ts : BitVec 25
deriving DecidableEq, Repr

/-- One slot of the registry: `known` and a CarState record (10_state.md R30). -/
structure Slot where
  known : Bool
  car : CarState
deriving DecidableEq, Repr

/-- An RxTelemetryFrame record: the fields of `RXT` but `valid` (10_state.md R35). -/
structure RxTel where
  status : Byte
  id : Byte
  lapTicks : BitVec 16
  lapCount : BitVec 16
  power : Byte
  firmware : Byte
  buttons : Byte
  ts : BitVec 25
deriving DecidableEq, Repr

/-- `RXT`, the last decoded telemetry frame (10_state.md R35). -/
structure RxtReg where
  valid : Bool
  frame : RxTel
deriving DecidableEq, Repr

/-- `FWV`, the last decoded firmware frame (10_state.md R36). -/
structure FwvReg where
  valid : Bool
  major : Byte
  minor : Byte
deriving DecidableEq, Repr

/-- `CSR`, the last CarState put out for the host (10_state.md R37). -/
structure CsrReg where
  valid : Bool
  car : CarState
deriving DecidableEq, Repr

/-- `TXB`, the last encoded outbound frame (10_state.md R38). -/
structure TxbReg where
  valid : Bool
  b : Frame
deriving DecidableEq, Repr

/-- The events (30_encoding.md R88). Id sets are 21-bit masks, bit `i` for car id `i`; `lapTicks` stands for the last
lap time (40_codec_rx.md R104). -/
inductive Event where
  | dongleConnected (connected : Bool)
  | frameFlushRequired
  | newLap (carId : Byte) (lapCount : BitVec 16) (ts : BitVec 25) (lapTicks : BitVec 16) (lapShort : Bool)
  | pitEnter (carId : Byte) (ts : BitVec 25)
  | pitLeave (carId : Byte) (ts : BitVec 25)
  | trackCall (active : Bool) (ids : BitVec 21)
  | allCarsOnTrack (allOnTrack : Bool) (offTrack : BitVec 21)
  | transmitReady (frame : Frame)
deriving DecidableEq, Repr

/-- The block, its external streams and its inputs.

`rxq`, `txq` and `evq` are the external streams of 10_state.md R42; `rspq` the responses of 30_encoding.md R87.
`reqs` are the requests presented and not yet answered, the head at the request port (20_memory.md R60).
`now` is the time input (10_state.md R24); `readOk` and `writeOk` are the transport's answers to the next operation's
`Read` and `Write` (20_memory.md R53). `world` lists the outside world's next moves; when it is empty they are
`Config.freeMoment` at `tick` (log 1). -/
structure State where
  timer : Timer
  ctxValid : Bool
  rs : RaceStatus
  sc : SystemConfig
  cars : Vector Slot 21
  rxt : RxtReg
  fwv : FwvReg
  csr : CsrReg
  txb : TxbReg
  res : Word64
  err : Byte
  errseen : BitVec 16
  rxq : List Byte
  txq : List Frame
  evq : List Event
  rspq : List Byte
  reqs : List Request
  now : Word64
  readOk : Bool
  writeOk : Bool
  world : List Config.Moment
  tick : Nat
deriving DecidableEq, Repr

/-- The reasons this machine stops with a fault: there are none. The spec's faults are recoverable, each leaves the
block ready for the next request (60_exceptions.md R225, R227), so each is a next state of the model (log 20). -/
inductive Fault
deriving DecidableEq, Repr

/-- The reasons a request has no meaning in the model. -/
inductive Refusal where
  /-- Raised by an arm of `exec` for an operation without a meaning yet. Safe: the model stops where the block goes on.
  No arm raises it: every operation has its meaning. -/
  | notModelled (mnemonic : String)
deriving DecidableEq, Repr

/-- The CarState with every field 0. The spec gives a record no value before it is first written (10_state.md R41, R45).
DESIGN CHOICE, unsafe: logs 9 and 10. -/
def zeroCar : CarState :=
  { reset := false, link := false, inPit := false, id := 0, lapTicks := 0, lapCount := 0, powerRaw := 0, onTrack := false,
    battLow := false, trackCall := false, lapShort := false, up := false, down := false, round := false, ts := 0 }

/-- The RxTelemetryFrame with every field 0. DESIGN CHOICE, unsafe: log 10. -/
def zeroTel : RxTel :=
  { status := 0, id := 0, lapTicks := 0, lapCount := 0, power := 0, firmware := 0, buttons := 0, ts := 0 }

/-- The state right after reset (10_state.md R45, 70_reset_and_hazards.md R250): the timer Stopped, the context invalid,
no car known, no result valid, no fault seen; no request yet (R251). The contents of invalid registers, the empty
streams and the inputs' values are DESIGN CHOICEs: logs 1 to 5 and 8 to 11. -/
def State.reset : State :=
  { timer := { running := false, start := 0, pacc := 0, sacc := 0 }
    ctxValid := false
    rs := { state := .stopped, speed := 0 }
    sc := { trig := .enter, count := .disabled, mode := .triggerPosition }
    cars := Vector.replicate 21 { known := false, car := zeroCar }
    rxt := { valid := false, frame := zeroTel }
    fwv := { valid := false, major := 0, minor := 0 }
    csr := { valid := false, car := zeroCar }
    txb := { valid := false, b := Vector.replicate 11 0 }
    res := 0
    err := 0
    errseen := 0
    rxq := []
    txq := []
    evq := []
    rspq := []
    reqs := []
    now := 0
    readOk := true
    writeOk := true
    world := []
    tick := 0 }

end Sys2Proof.Machine
end

