-- ==== Sys2Proof/Machine/Ops.lean ====
section
/-! DEFINITION. The named operations over the state that every meaning is built from: register writes, events, the
transport primitives, the response, taking a fault, the reset of the internal state and the outside world's move. -/

namespace Sys2Proof.Machine

open Sys2Proof

/-! ### Register writes -/

/-- Write the timer registers (10_state.md R21). -/
def setTimer (t : Timer) (s : State) : State := { s with timer := t }
/-- Write `CTX.valid` (10_state.md R25). -/
def setCtxValid (v : Bool) (s : State) : State := { s with ctxValid := v }
/-- Write RaceStatus (10_state.md R25). -/
def setRs (r : RaceStatus) (s : State) : State := { s with rs := r }
/-- Write SystemConfig (10_state.md R25). -/
def setSc (c : SystemConfig) (s : State) : State := { s with sc := c }
/-- Replace slot `i` wholesale and make its car known (10_state.md R32, 43_registry.md R165). -/
def setCar (i : Fin 21) (c : CarState) (s : State) : State := { s with cars := s.cars.set i { known := true, car := c } }
/-- `RXT <- f; RXT.valid <- 1` (10_state.md R35). -/
def setRxt (f : RxTel) (s : State) : State := { s with rxt := { valid := true, frame := f } }
/-- `FWV.major`, `FWV.minor`, and `FWV.valid <- 1` (10_state.md R36). -/
def setFwv (major minor : Byte) (s : State) : State := { s with fwv := { valid := true, major := major, minor := minor } }
/-- `CSR <- c; CSR.valid <- 1` (10_state.md R37). -/
def setCsr (c : CarState) (s : State) : State := { s with csr := { valid := true, car := c } }
/-- `TXB.b <- f; TXB.valid <- 1` (10_state.md R38). -/
def setTxb (f : Frame) (s : State) : State := { s with txb := { valid := true, b := f } }
/-- Write `RES` (10_state.md R39). -/
def setRes (v : Word64) (s : State) : State := { s with res := v }

/-! ### Events -/

/-- `emit E`: append one event to the event stream (00_scope.md R11, 60_exceptions.md R230). -/
def emit (e : Event) (s : State) : State := { s with evq := s.evq ++ [e] }
/-- Emit events in order, contiguously (20_memory.md R64). -/
def emitAll (es : List Event) (s : State) : State := { s with evq := s.evq ++ es }

/-! ### Response and faults -/

/-- Give the response and retire the request at the port (30_encoding.md R87, 20_memory.md R60). -/
def respond (status : Byte) (s : State) : State := { s with rspq := s.rspq ++ [status], reqs := s.reqs.tail }

/-- The operation completed: response 0 (30_encoding.md R87). -/
def complete (s : State) : State := respond 0 s

/-- The fault codes of 60_exceptions.md R220. -/
inductive FaultCode where
  | frameLength | carIdRange | notInit | noFrame | illegalOp | operandRange | transport | unknownCar
deriving DecidableEq, Repr

/-- The number of a fault code (60_exceptions.md R220). -/
def codeOf : FaultCode → Byte
  | .frameLength => 1
  | .carIdRange => 2
  | .notInit => 3
  | .noFrame => 4
  | .illegalOp => 5
  | .operandRange => 6
  | .transport => 7
  | .unknownCar => 8

/-- Fault entry, shared by every operation: `ERR <- code`, `ERRSEEN[code] <- 1`, the response carries the code, and the
block is ready for the next request (60_exceptions.md R225, R227; 10_state.md R40). -/
def raise (f : FaultCode) (s : State) : State :=
  respond (codeOf f) { s with err := codeOf f, errseen := s.errseen ||| (1#16 <<< (codeOf f).toNat) }

/-! ### The transport primitives -/

/-- `Avail()`: the number of bytes in `RXQ` (20_memory.md R51). -/
def avail (s : State) : Nat := s.rxq.length

/-- What `Read(n)` comes to (20_memory.md R51, R53). -/
inductive ReadResult where
  /-- Fewer than `n` bytes wait and the `Read` has not failed: the operation does not complete yet. -/
  | blocked
  /-- The transport failed; no byte was removed. -/
  | failed
  /-- The first `n` bytes, and the state without them. -/
  | got (bytes : List Byte) (s : State)

/-- `Read(n)`: fails, removing nothing, or blocks while fewer than `n` bytes wait, or removes and returns the first `n`
bytes in stream order (20_memory.md R51, R53). On a closed transport every `Read` fails, whatever waits
(70_reset_and_hazards.md R253). That a `Read` may also fail while it blocks is DEDUCED, safe: log 6. -/
def read (n : Nat) (s : State) : ReadResult :=
  if s.readOk = false then .failed
  else if avail s < n then .blocked
  else .got (s.rxq.take n) { s with rxq := s.rxq.drop n }

/-- `Write(f)` when it succeeds: append the frame to `TXQ` (20_memory.md R52). Whether it succeeds is `writeOk` (R53). -/
def write (f : Frame) (s : State) : State := { s with txq := s.txq ++ [f] }

/-- The block's reaction to a failed `Read` or `Write` (60_exceptions.md R224, 45_rxpath.md R205). -/
def transportFault (s : State) : State := raise .transport (emit (.dongleConnected false) s)

/-- `TRANSMIT(f)` (44_builder.md R189), up to and including the response. -/
def transmit (f : Frame) (s : State) : State :=
  let s1 := emit (.transmitReady f) (setTxb f s)
  if s1.writeOk then complete (write f s1) else transportFault s1

/-! ### Reset and the outside world -/

/-- Reset of the internal state: every piece at the value of 10_state.md R45, the streams and inputs untouched
(70_reset_and_hazards.md R250, R251). No step raises it: log 18. That it keeps the requests already presented, a held
RX_FW included, and the responses already given is a DESIGN CHOICE, unsafe: log 23. -/
def resetInternal (s : State) : State :=
  { State.reset with
    rxq := s.rxq, txq := s.txq, evq := s.evq, rspq := s.rspq, reqs := s.reqs, now := s.now, readOk := s.readOk,
    writeOk := s.writeOk, world := s.world, tick := s.tick }

/-- The time input's next value: the one offered, if it keeps `now` non-decreasing and below 2^63; else `now` stands
still (10_state.md R24). DESIGN CHOICE, safe: log 2. -/
def nextNow (now offered : Word64) : Word64 :=
  if now.toNat ≤ offered.toNat ∧ offered.toNat < 2 ^ 63 then offered else now

/-- The outside world's next move: the first one listed, else a free value (log 1). -/
def nextMoment (s : State) : Config.Moment :=
  match s.world with
  | m :: _ => m
  | [] => Config.freeMoment s.tick

/-- Let the outside world move, between two steps: time passes, the dongle appends bytes, the transport's next answers
and the host's further requests are settled (10_state.md R24; 20_memory.md R53, R61, R62). -/
def worldMove (s : State) : State :=
  let m := nextMoment s
  { s with
    now := nextNow s.now m.now
    rxq := s.rxq ++ m.rx
    readOk := m.readOk
    writeOk := m.writeOk
    reqs := s.reqs ++ m.reqs
    world := s.world.tail
    tick := s.tick + 1 }

end Sys2Proof.Machine
end

