-- ==== Sys2Proof/Machine/Operands.lean ====
section
/-! DEFINITION. Operand and field assembly: the host-side selectors (30_encoding.md R73), the car id as a slot index or
target (20_memory.md R59), and the multi-byte wire fields (30_encoding.md R75). -/

namespace Sys2Proof.Machine

open Sys2Proof

/-- `ssel` (30_encoding.md R73). -/
def raceStateOf (v : Byte) : Option RaceState :=
  match v.toNat with
  | 0 => some .stopped
  | 1 => some .running
  | 2 => some .paused
  | 3 => some .flaggedLc
  | 4 => some .flaggedNolc
  | _ => none

/-- `opsel` (30_encoding.md R73). -/
def cmdOpOf (v : Byte) : Option CmdOp :=
  match v.toNat with
  | 0 => some .noAction
  | 1 => some .setPitSpeed
  | 2 => some .setMaxSpeed
  | 3 => some .setMinSpeed
  | 4 => some .setRfLevel
  | 5 => some .setMaxBrake
  | 6 => some .setMinLapTime
  | _ => none

/-- `trig` (30_encoding.md R73). -/
def pitTriggerOf (v : Byte) : Option PitTrigger :=
  match v.toNat with
  | 0 => some .enter
  | 1 => some .leave
  | _ => none

/-- `count` (30_encoding.md R73). -/
def pitCountOf (v : Byte) : Option PitCount :=
  match v.toNat with
  | 0 => some .disabled
  | 1 => some .enabled
  | _ => none

/-- `mode` (30_encoding.md R73). -/
def powerModeOf (v : Byte) : Option PowerMode :=
  match v.toNat with
  | 0 => some .triggerPosition
  | 1 => some .pwm
  | _ => none

/-- The three configuration selectors together; `none` when one is outside its legal set (30_encoding.md R73). -/
def configOf (trig count mode : Byte) : Option SystemConfig :=
  match pitTriggerOf trig, pitCountOf count, powerModeOf mode with
  | some t, some c, some m => some { trig := t, count := c, mode := m }
  | _, _, _ => none

/-- The slot a car id selects: ids 0 to 20, no other (20_memory.md R59). -/
def slotOf (id : Byte) : Option (Fin 21) :=
  if h : id.toNat < 21 then some ⟨id.toNat, h⟩ else none

/-- A 16-bit field from its high and low bytes, `hi*256 + lo` (30_encoding.md R75). -/
def word16 (hi lo : Byte) : BitVec 16 := hi ++ lo

/-- The message timestamp `timer24 - delay`, exact over the integers, in 25 bits two's complement
(40_codec_rx.md R103, 30_encoding.md R75, 90_conflicts.md C2). -/
def timestamp (timerHi timerMid timerLo delay : Byte) : BitVec 25 :=
  BitVec.ofInt 25 ((timerHi.toNat * 65536 + timerMid.toNat * 256 + timerLo.toNat : Nat) - (delay.toNat : Int))

/-- The last lap time in seconds, `lap_ticks / 99.25`, an exact rational (40_codec_rx.md R104). -/
def lapSeconds (lapTicks : BitVec 16) : ℚ := lapTicks.toNat * 4 / 397

/-- The power mean value on the 0 to 10 scale, `power_raw * 10 / 127`, an exact rational (40_codec_rx.md R110). -/
def powerScaled (powerRaw : BitVec 7) : ℚ := powerRaw.toNat * 10 / 127

/-- What the telemetry frame's firmware byte decodes to: the single value `unknown` (40_codec_rx.md R109). -/
inductive FirmwareInfo where
  | unknown
deriving DecidableEq, Repr

/-- The decode of the firmware byte, unresolved in the source (40_codec_rx.md R109). -/
def firmwareInfo (_firmware : Byte) : FirmwareInfo := .unknown

end Sys2Proof.Machine
end

