-- ==== Sys2Proof/Machine/Flags.lean ====
section
/-! DEFINITION. Every flag the spec computes: the bits of the wire bytes (30_encoding.md R77 to R79), the timer's state
read off its registers (10_state.md R22), and the aggregate flags and id sets of the registry (43_registry.md R167). -/

namespace Sys2Proof.Machine

open Sys2Proof

/-- `(x & mask) != 0` on bytes (00_scope.md R16). -/
def maskSet (x mask : Byte) : Bool := x &&& mask != 0

/-- "car was reset", status mask 0x01 (30_encoding.md R77). -/
def statusReset (status : Byte) : Bool := maskSet status 0x01
/-- "controller link present", status mask 0x02 (30_encoding.md R77). -/
def statusLink (status : Byte) : Bool := maskSet status 0x02
/-- "car in pit lane", status mask 0x10 (30_encoding.md R77). -/
def statusInPit (status : Byte) : Bool := maskSet status 0x10
/-- The power mean value, power mask 0x7F (30_encoding.md R78). -/
def powerMean (power : Byte) : BitVec 7 := (power &&& 0x7F#8).setWidth 7
/-- "car on track", power mask 0x80 (30_encoding.md R78). -/
def powerOnTrack (power : Byte) : Bool := maskSet power 0x80
/-- "controller battery low", buttons mask 0x04 (30_encoding.md R79). -/
def buttonsBattLow (buttons : Byte) : Bool := maskSet buttons 0x04
/-- "track-call button pressed", buttons mask 0x08 (30_encoding.md R79). -/
def buttonsTrackCall (buttons : Byte) : Bool := maskSet buttons 0x08
/-- The "short lap" flag, buttons mask 0x10 (30_encoding.md R79). -/
def buttonsLapShort (buttons : Byte) : Bool := maskSet buttons 0x10
/-- "up button pressed", buttons mask 0x20 (30_encoding.md R79). -/
def buttonsUp (buttons : Byte) : Bool := maskSet buttons 0x20
/-- "down button pressed", buttons mask 0x40 (30_encoding.md R79). -/
def buttonsDown (buttons : Byte) : Bool := maskSet buttons 0x40
/-- "round button pressed", buttons mask 0x80 (30_encoding.md R79). -/
def buttonsRound (buttons : Byte) : Bool := maskSet buttons 0x80

/-- The timer's states (00_scope.md R13). -/
inductive TimerState where
  | stopped | running | paused
deriving DecidableEq, Repr

/-- The timer's state, read off its registers (10_state.md R22, 42_timer.md R140). -/
def timerStateOf (t : Timer) : TimerState :=
  if t.running then .running else if t.pacc = 0 then .stopped else .paused

/-- The set of car ids whose slot has a property, as a 21-bit mask: bit `i` for `CAR[i]` (30_encoding.md R88,
43_registry.md R169). -/
def idMask (p : Slot → Bool) (cars : Vector Slot 21) : BitVec 21 :=
  (BitVec.ofBoolListLE (cars.toList.map p)).setWidth 21

/-- The known cars with the track-call flag set (43_registry.md R160 step 6, R167). -/
def trackCallIds (cars : Vector Slot 21) : BitVec 21 := idMask (fun c => c.known && c.car.trackCall) cars

/-- The known cars not on track (43_registry.md R160 step 6, R167). -/
def offTrackIds (cars : Vector Slot 21) : BitVec 21 := idMask (fun c => c.known && !c.car.onTrack) cars

end Sys2Proof.Machine
end

