-- ==== Sys2Proof/Machine/Timer.lean ====
section
/-! DEFINITION. The race timer (42_timer.md): F_VALUE, F_VALUE_CS, F_CS_BYTES, and the meanings of the seven T_
operations. Arithmetic is on unsigned 64-bit nanoseconds, modulo 2^64 (R141). -/

namespace Sys2Proof.Machine

open Sys2Proof

/-- `F_VALUE(now)` (42_timer.md R142). -/
def timerValue (t : Timer) (now : Word64) : Word64 :=
  if t.running then (now - t.start) + t.pacc else t.sacc

/-- `F_VALUE_CS(now)`: floor division by 10 000 000 (42_timer.md R151). -/
def timerCs (t : Timer) (now : Word64) : Word64 :=
  BitVec.ofNat 64 ((timerValue t now).toNat / Config.nsPerCs)

/-- The centisecond count modulo 2^24 (42_timer.md R152). -/
def timerCs24 (t : Timer) (now : Word64) : BitVec 24 := (timerCs t now).setWidth 24

/-- The three bytes `F_CS_BYTES(now)`, most significant first (42_timer.md R152, 20_memory.md R55). -/
structure TimerBytes where
  tb0 : Byte
  tb1 : Byte
  tb2 : Byte
deriving DecidableEq, Repr

/-- `F_CS_BYTES(now)`: `w[23:16], w[15:8], w[7:0]` of the count modulo 2^24 (42_timer.md R152). -/
def csBytes (t : Timer) (now : Word64) : TimerBytes :=
  { tb0 := (timerCs24 t now).extractLsb' 16 8
    tb1 := (timerCs24 t now).extractLsb' 8 8
    tb2 := (timerCs24 t now).extractLsb' 0 8 }

/-- `start()` (42_timer.md R143). -/
def timerStart (t : Timer) (now : Word64) : Timer :=
  if t.running then t else { t with sacc := 0, start := now, running := true }

/-- `pause()` (42_timer.md R144). -/
def timerPause (t : Timer) (now : Word64) : Timer :=
  if t.running then { t with pacc := t.pacc + (now - t.start), running := false } else t

/-- `resume()` (42_timer.md R145); no effect while Running is the spec's decision D8. -/
def timerResume (t : Timer) (now : Word64) : Timer :=
  if t.running = false ∧ t.pacc ≠ 0 then { t with start := now, running := true } else t

/-- `stop()` (42_timer.md R146); its effect while Paused is the spec's decision D9. -/
def timerStop (t : Timer) (now : Word64) : Timer :=
  let elapsed := t.pacc + (if t.running then now - t.start else 0)
  { t with sacc := t.sacc + elapsed, pacc := 0, running := false }

/-- T_START (42_timer.md R143). -/
def execTStart (s : State) : Host.Outcome State Fault Refusal :=
  .next (complete (setTimer (timerStart s.timer s.now) s))

/-- T_PAUSE (42_timer.md R144). -/
def execTPause (s : State) : Host.Outcome State Fault Refusal :=
  .next (complete (setTimer (timerPause s.timer s.now) s))

/-- T_RESUME (42_timer.md R145). -/
def execTResume (s : State) : Host.Outcome State Fault Refusal :=
  .next (complete (setTimer (timerResume s.timer s.now) s))

/-- T_STOP (42_timer.md R146). -/
def execTStop (s : State) : Host.Outcome State Fault Refusal :=
  .next (complete (setTimer (timerStop s.timer s.now) s))

/-- T_VALUE (42_timer.md R148). -/
def execTValue (s : State) : Host.Outcome State Fault Refusal :=
  .next (complete (setRes (timerValue s.timer s.now) s))

/-- T_VALUE_CS (42_timer.md R149). -/
def execTValueCs (s : State) : Host.Outcome State Fault Refusal :=
  .next (complete (setRes (timerCs s.timer s.now) s))

/-- T_BYTES (42_timer.md R150): `RES <- tb0*65536 + tb1*256 + tb2`. -/
def execTBytes (s : State) : Host.Outcome State Fault Refusal :=
  let b := csBytes s.timer s.now
  .next (complete (setRes (BitVec.ofNat 64 (b.tb0.toNat * 65536 + b.tb1.toNat * 256 + b.tb2.toNat)) s))

end Sys2Proof.Machine
end

