-- ==== Sys2Proof/Machine/CodecTx.lean ====
section
/-! DEFINITION. The outbound frame codec (41_codec_tx.md): F_ENC_STATUS, F_ENC_CMD, the two literal frames, and the
meanings of ENC_STATUS, ENC_CMD, ENC_FWREQ and ENC_FREE. The encoders take the open parameters as an argument
(00_scope.md R7); the meanings pass `Config.params`. -/

namespace Sys2Proof.Machine

open Sys2Proof

/-- `B0S`: race-state code, pit-count bit and pit-trigger bit OR-ed (41_codec_tx.md R121). -/
def statusByte0 (p : Config.Params) (rs : RaceStatus) (sc : SystemConfig) : Byte :=
  p.rsCode rs.state ||| p.pitCountBits sc.count ||| p.pitTrigBits sc.trig

/-- `B0C = (B0S & 0xF0) | 0x06` (41_codec_tx.md R126, R132; 90_conflicts.md C6). -/
def commandByte0 (p : Config.Params) (rs : RaceStatus) (sc : SystemConfig) : Byte :=
  (statusByte0 p rs sc &&& 0xF0#8) ||| 0x06#8

/-- `B7` (41_codec_tx.md R121). -/
def powerByte7 (p : Config.Params) (sc : SystemConfig) : Byte := p.powerModeBits sc.mode

/-- `F_ENC_STATUS` (41_codec_tx.md R124; byte 5 is 0x80, 90_conflicts.md C1). -/
def encodeStatus (p : Config.Params) (rs : RaceStatus) (sc : SystemConfig) (tb : TimerBytes) : Frame :=
  #v[statusByte0 p rs sc, rs.speed, 0x00, 0x00, 0x00, 0x80, 0x00, powerByte7 p sc, tb.tb0, tb.tb1, tb.tb2]

/-- `F_ENC_CMD` (41_codec_tx.md R126): the global slot for id 0, the per-car slot for any other. -/
def encodeCommand (p : Config.Params) (rs : RaceStatus) (sc : SystemConfig) (id : Byte) (op : CmdOp) (arg : Byte)
    (tb : TimerBytes) : Frame :=
  if id = 0 then
    #v[commandByte0 p rs sc, rs.speed, 0x00, p.cmdCode op, arg, 0x80, 0x00, powerByte7 p sc, tb.tb0, tb.tb1, tb.tb2]
  else
    #v[commandByte0 p rs sc, rs.speed, id, 0x00, 0x00, 0x80#8 ||| p.cmdCode op, arg, powerByte7 p sc,
       tb.tb0, tb.tb1, tb.tb2]

/-- `F_ENC_FWREQ()`, a fixed literal (41_codec_tx.md R130, 30_encoding.md R85). -/
def firmwareRequest : Frame := #v[0x06, 0x06, 0x06, 0x06, 0x00, 0x00, 0x00, 0x01, 0x00, 0x00, 0x00]

/-- `F_ENC_FREE()`, a fixed literal (41_codec_tx.md R131, 30_encoding.md R85). -/
def freeRace : Frame := #v[0x0F, 0xFF, 0x00, 0x00, 0x00, 0x80, 0x00, 0x80, 0x00, 0x00, 0x00]

/-- The checks of a command, shared by ENC_CMD and SEND_CMD, in their order (41_codec_tx.md R127, R128; 44_builder.md
R186): context, target id, opcode selector. The frame carries the timer bytes given. -/
def commandFrame (id opsel arg : Byte) (tb : TimerBytes) (s : State) : Except FaultCode Frame :=
  if s.ctxValid = false then .error .notInit
  else if 20 < id.toNat then .error .carIdRange
  else
    match cmdOpOf opsel with
    | none => .error .operandRange
    | some op => .ok (encodeCommand Config.params s.rs s.sc id op arg tb)

/-- ENC_STATUS (41_codec_tx.md R125). -/
def execEncStatus (tb0 tb1 tb2 : Byte) (s : State) : Host.Outcome State Fault Refusal :=
  if s.ctxValid then
    .next (complete (setTxb (encodeStatus Config.params s.rs s.sc { tb0 := tb0, tb1 := tb1, tb2 := tb2 }) s))
  else .next (raise .notInit s)

/-- ENC_CMD (41_codec_tx.md R128). -/
def execEncCmd (id opsel arg tb0 tb1 tb2 : Byte) (s : State) : Host.Outcome State Fault Refusal :=
  match commandFrame id opsel arg { tb0 := tb0, tb1 := tb1, tb2 := tb2 } s with
  | .error f => .next (raise f s)
  | .ok frame => .next (complete (setTxb frame s))

/-- ENC_FWREQ (41_codec_tx.md R130). -/
def execEncFwreq (s : State) : Host.Outcome State Fault Refusal := .next (complete (setTxb firmwareRequest s))

/-- ENC_FREE (41_codec_tx.md R131). -/
def execEncFree (s : State) : Host.Outcome State Fault Refusal := .next (complete (setTxb freeRace s))

end Sys2Proof.Machine
end

