-- ==== Sys2Proof/Machine/Builder.lean ====
section
/-! DEFINITION. The command builder (44_builder.md): INIT, SET_STATE, SET_SPEED, SET_CONFIG, SEND_STATUS, SEND_CMD,
SEND_FWREQ, SEND_FREE. -/

namespace Sys2Proof.Machine

open Sys2Proof

/-- Encode the status frame from the registers as they stand, with the timer's bytes at `now`, and transmit it
(44_builder.md R180, R185, R191). -/
def transmitStatus (s : State) : State :=
  transmit (encodeStatus Config.params s.rs s.sc (csBytes s.timer s.now)) s

/-- SET_STATE: mutate, then encode (44_builder.md R180, R182). -/
def execSetState (ssel : Byte) (s : State) : Host.Outcome State Fault Refusal :=
  if s.ctxValid then
    match raceStateOf ssel with
    | none => .next (raise .operandRange s)
    | some st => .next (transmitStatus (setRs { s.rs with state := st } s))
  else .next (raise .notInit s)

/-- SET_SPEED: mutate, then encode (44_builder.md R180, R183). -/
def execSetSpeed (speed : Byte) (s : State) : Host.Outcome State Fault Refusal :=
  if s.ctxValid then .next (transmitStatus (setRs { s.rs with speed := speed } s)) else .next (raise .notInit s)

/-- SET_CONFIG: nothing is transmitted (44_builder.md R184). -/
def execSetConfig (trig count mode : Byte) (s : State) : Host.Outcome State Fault Refusal :=
  if s.ctxValid then
    match configOf trig count mode with
    | none => .next (raise .operandRange s)
    | some c => .next (complete (setSc c s))
  else .next (raise .notInit s)

/-- SEND_STATUS (44_builder.md R185). -/
def execSendStatus (s : State) : Host.Outcome State Fault Refusal :=
  if s.ctxValid then .next (transmitStatus s) else .next (raise .notInit s)

/-- SEND_CMD (44_builder.md R186). -/
def execSendCmd (id opsel arg : Byte) (s : State) : Host.Outcome State Fault Refusal :=
  match commandFrame id opsel arg (csBytes s.timer s.now) s with
  | .error f => .next (raise f s)
  | .ok frame => .next (transmit frame s)

/-- SEND_FWREQ (44_builder.md R187). -/
def execSendFwreq (s : State) : Host.Outcome State Fault Refusal := .next (transmit firmwareRequest s)

/-- SEND_FREE (44_builder.md R188). -/
def execSendFree (s : State) : Host.Outcome State Fault Refusal := .next (transmit freeRace s)

/-- INIT: nothing is transmitted, and it may be issued again at any time (44_builder.md R181). -/
def execInit (ssel speed trig count mode : Byte) (s : State) : Host.Outcome State Fault Refusal :=
  match raceStateOf ssel, configOf trig count mode with
  | some st, some c => .next (complete (setCtxValid true (setSc c (setRs { state := st, speed := speed } s))))
  | _, _ => .next (raise .operandRange s)

end Sys2Proof.Machine
end

