-- ==== Sys2Proof/Machine/CodecRx.lean ====
section
/-! DEFINITION. The inbound frame codec (40_codec_rx.md): F_DEC_TEL, F_DEC_FW, F_UNPACK, and the meanings of DEC_TEL,
DEC_FW and UNPACK. -/

namespace Sys2Proof.Machine

open Sys2Proof

/-- `F_DEC_TEL`: defined for exactly 13 bytes (40_codec_rx.md R101 to R103; bytes as 30_encoding.md R76). -/
def decodeTelemetry : List Byte → Option RxTel
  | [b0, b1, b2, b3, b4, b5, b6, b7, b8, b9, b10, b11, b12] =>
      some { status := b0, id := b1, lapTicks := word16 b2 b3, lapCount := word16 b6 b5, power := b7, firmware := b8,
             buttons := b9, ts := timestamp b10 b11 b12 b4 }
  | _ => none

/-- `F_DEC_FW`: major and minor, defined for exactly 5 bytes; the last three are ignored (40_codec_rx.md R106). -/
def decodeFirmware : List Byte → Option (Byte × Byte)
  | [major, minor, _, _, _] => some (major, minor)
  | _ => none

/-- `F_UNPACK` (40_codec_rx.md R108). The firmware byte contributes nothing (R109). -/
def unpackFrame (f : RxTel) : CarState :=
  { reset := statusReset f.status
    link := statusLink f.status
    inPit := statusInPit f.status
    id := f.id
    lapTicks := f.lapTicks
    lapCount := f.lapCount
    powerRaw := powerMean f.power
    onTrack := powerOnTrack f.power
    battLow := buttonsBattLow f.buttons
    trackCall := buttonsTrackCall f.buttons
    lapShort := buttonsLapShort f.buttons
    up := buttonsUp f.buttons
    down := buttonsDown f.buttons
    round := buttonsRound f.buttons
    ts := f.ts }

/-- DEC_TEL (40_codec_rx.md R100). -/
def execDecTel (buf : List Byte) (s : State) : Host.Outcome State Fault Refusal :=
  match decodeTelemetry buf with
  | none => .next (raise .frameLength s)
  | some f => .next (complete (setRxt f s))

/-- DEC_FW (40_codec_rx.md R105). -/
def execDecFw (buf : List Byte) (s : State) : Host.Outcome State Fault Refusal :=
  match decodeFirmware buf with
  | none => .next (raise .frameLength s)
  | some (major, minor) => .next (complete (setFwv major minor s))

/-- UNPACK (40_codec_rx.md R107). -/
def execUnpack (s : State) : Host.Outcome State Fault Refusal :=
  if s.rxt.valid then .next (complete (setCsr (unpackFrame s.rxt.frame) s)) else .next (raise .noFrame s)

end Sys2Proof.Machine
end

