-- ==== Sys2Proof/Machine/Registry.lean ====
section
/-! DEFINITION. The per-car registry and its differ (43_registry.md): UPDATE as a shared operation (POLL performs it
too), RD_CAR, and the packed event word of 30_encoding.md R88. -/

namespace Sys2Proof.Machine

open Sys2Proof

/-- `DEFAULT(i)`, the baseline of the first diff (10_state.md R33, 43_registry.md R162). -/
def defaultCar (id : Byte) : CarState :=
  { reset := false, link := true, inPit := false, id := id, lapTicks := 0, lapCount := 0, powerRaw := 0, onTrack := true,
    battLow := false, trackCall := false, lapShort := false, up := false, down := false, round := false, ts := 0 }

/-- Step 3: `NewLap` when the new count is strictly greater, an unsigned comparison (43_registry.md R164). -/
def lapEvents (prev new : CarState) : List Event :=
  if prev.lapCount.toNat < new.lapCount.toNat then [.newLap new.id new.lapCount new.ts new.lapTicks new.lapShort] else []

/-- Step 4: `PitEnter` or `PitLeave` when the in-pit flag changed (43_registry.md R166). -/
def pitEvents (prev new : CarState) : List Event :=
  if new.inPit = prev.inPit then []
  else if new.inPit then [.pitEnter new.id new.ts] else [.pitLeave new.id new.ts]

/-- The per-car events of a frame against the slot it updates: none for a first frame when the parameter suppresses
them (43_registry.md R160 steps 2 to 4, R162, R163, R168). -/
def diffEvents (suppress : Bool) (slot : Slot) (new : CarState) : List Event :=
  let prev := if slot.known then slot.car else defaultCar new.id
  if !slot.known && suppress then [] else lapEvents prev new ++ pitEvents prev new

/-- Step 6: the two aggregate events over all known cars, TrackCall first (43_registry.md R167, R168). -/
def aggregateEvents (cars : Vector Slot 21) : List Event :=
  [.trackCall (decide (trackCallIds cars ≠ 0)) (trackCallIds cars),
   .allCarsOnTrack (decide (offTrackIds cars = 0)) (offTrackIds cars)]

/-- Steps 2 to 6 of UPDATE for slot `i`: diff, replace, aggregate (43_registry.md R160, R165). -/
def updateSlot (suppress : Bool) (i : Fin 21) (new : CarState) (s : State) : State :=
  let s1 := setCar i new (emitAll (diffEvents suppress s.cars[i] new) s)
  emitAll (aggregateEvents s1.cars) s1

/-- UPDATE, response included (43_registry.md R160, R161). -/
def update (s : State) : State :=
  if s.rxt.valid then
    match slotOf s.rxt.frame.id with
    | none => raise .carIdRange s
    | some i => complete (updateSlot Config.params.suppressFirstFrameEvents i (unpackFrame s.rxt.frame) s)
  else raise .noFrame s

/-- UPDATE (43_registry.md R160). -/
def execUpdate (s : State) : Host.Outcome State Fault Refusal := .next (update s)

/-- RD_CAR (43_registry.md R170). -/
def execRdCar (id : Byte) (s : State) : Host.Outcome State Fault Refusal :=
  match slotOf id with
  | none => .next (raise .carIdRange s)
  | some i =>
    if s.cars[i].known then .next (complete (setCsr s.cars[i].car s)) else .next (raise .unknownCar s)

/-- A field placed at bit `lo` of the 128-bit event word. -/
def evField {w : Nat} (v : BitVec w) (lo : Nat) : BitVec 128 := v.setWidth 128 <<< lo

/-- The packed 128-bit event word, `ev[127:120]` the kind (30_encoding.md R88). -/
def eventWord : Event → BitVec 128
  | .dongleConnected c => evField 0#8 120 ||| evField (BitVec.ofBool c) 0
  | .frameFlushRequired => evField 1#8 120
  | .newLap id laps ts ticks short =>
      evField 2#8 120 ||| evField id 0 ||| evField laps 8 ||| evField ts 24 ||| evField ticks 49
        ||| evField (BitVec.ofBool short) 65
  | .pitEnter id ts => evField 3#8 120 ||| evField id 0 ||| evField ts 8
  | .pitLeave id ts => evField 4#8 120 ||| evField id 0 ||| evField ts 8
  | .trackCall active ids => evField 5#8 120 ||| evField (BitVec.ofBool active) 0 ||| evField ids 1
  | .allCarsOnTrack all ids => evField 6#8 120 ||| evField (BitVec.ofBool all) 0 ||| evField ids 1
  | .transmitReady f =>
      evField 7#8 120 ||| evField f[0] 80 ||| evField f[1] 72 ||| evField f[2] 64 ||| evField f[3] 56 ||| evField f[4] 48
        ||| evField f[5] 40 ||| evField f[6] 32 ||| evField f[7] 24 ||| evField f[8] 16 ||| evField f[9] 8 ||| evField f[10] 0

end Sys2Proof.Machine
end

