-- ==== Sys2Proof/Machine/RxPath.lean ====
section
/-! DEFINITION. The receive path (45_rxpath.md): POLL, FLUSH, RX_FW. -/

namespace Sys2Proof.Machine

open Sys2Proof

/-- `DISCARD(n)` and what follows it, for an operation that flushes: the bytes are dropped, `FrameFlushRequired` is
emitted and `RES` written; a failed `Read` emits no flush event (45_rxpath.md R201 to R203, R205). -/
def flushBytes (n : Nat) (outcome : Word64) (s : State) : State :=
  match read n s with
  | .blocked => s
  | .failed => transportFault s
  | .got _ s1 => complete (setRes outcome (emit .frameFlushRequired s1))

/-- POLL (45_rxpath.md R200, R201). `Avail()` is sampled once, so its `Read`s never block. -/
def execPoll (s : State) : Host.Outcome State Fault Refusal :=
  let n := avail s
  if n % 13 ≠ 0 then .next (flushBytes n 2 s)
  else if n = 0 then .next (complete (setRes 0 s))
  else
    match read 13 s with
    | .blocked => .next s
    | .failed => .next (transportFault s)
    | .got bytes s1 =>
      match decodeTelemetry bytes with
      | none => .next (raise .frameLength s1)
      | some f => .next (update (setRes 1 (setRxt f s1)))

/-- The count FLUSH writes to `RES`: `n` when it fits 64 bits, else a free value (45_rxpath.md R203; log 13). -/
def flushCount (n : Nat) : Word64 := if n < 2 ^ 64 then BitVec.ofNat 64 n else Config.freeFlushCount n

/-- FLUSH (45_rxpath.md R203). -/
def execFlush (s : State) : Host.Outcome State Fault Refusal :=
  let n := avail s
  if n = 0 then .next (complete (setRes 0 (emit .frameFlushRequired s)))
  else .next (flushBytes n (flushCount n) s)

/-- RX_FW (45_rxpath.md R204). While fewer than five bytes wait and the `Read` has not failed the operation is held:
nothing changes and the request stays at the port (70_reset_and_hazards.md R268; log 6). A failed `Read`, as on a closed
transport (R253), ends it whatever waits. -/
def execRxFw (s : State) : Host.Outcome State Fault Refusal :=
  match read 5 s with
  | .blocked => .next s
  | .failed => .next (transportFault s)
  | .got bytes s1 =>
    match decodeFirmware bytes with
    | none => .next (raise .frameLength s1)
    | some (major, minor) => .next (complete (setFwv major minor s1))

end Sys2Proof.Machine
end

