-- ==== Sys2Proof/Machine/Dispatch.lean ====
section
/-! DEFINITION. The one dispatch: an arm per operation of 30_encoding.md R72, each a direct call of its meaning. -/

namespace Sys2Proof.Machine

open Sys2Proof

def exec (i : Instr) (s : State) : Host.Outcome State Fault Refusal :=
  match i with
  | .decTel buf => Sys2Proof.Machine.execDecTel buf s
  | .decFw buf => Sys2Proof.Machine.execDecFw buf s
  | .unpack => Sys2Proof.Machine.execUnpack s
  | .encStatus tb0 tb1 tb2 => Sys2Proof.Machine.execEncStatus tb0 tb1 tb2 s
  | .encCmd id opsel arg tb0 tb1 tb2 => Sys2Proof.Machine.execEncCmd id opsel arg tb0 tb1 tb2 s
  | .encFwreq => Sys2Proof.Machine.execEncFwreq s
  | .encFree => Sys2Proof.Machine.execEncFree s
  | .tStart => Sys2Proof.Machine.execTStart s
  | .tPause => Sys2Proof.Machine.execTPause s
  | .tResume => Sys2Proof.Machine.execTResume s
  | .tStop => Sys2Proof.Machine.execTStop s
  | .tValue => Sys2Proof.Machine.execTValue s
  | .tValueCs => Sys2Proof.Machine.execTValueCs s
  | .tBytes => Sys2Proof.Machine.execTBytes s
  | .update => Sys2Proof.Machine.execUpdate s
  | .rdCar id => Sys2Proof.Machine.execRdCar id s
  | .setState ssel => Sys2Proof.Machine.execSetState ssel s
  | .setSpeed speed => Sys2Proof.Machine.execSetSpeed speed s
  | .setConfig trig count mode => Sys2Proof.Machine.execSetConfig trig count mode s
  | .sendStatus => Sys2Proof.Machine.execSendStatus s
  | .sendCmd id opsel arg => Sys2Proof.Machine.execSendCmd id opsel arg s
  | .sendFwreq => Sys2Proof.Machine.execSendFwreq s
  | .sendFree => Sys2Proof.Machine.execSendFree s
  | .init ssel speed trig count mode => Sys2Proof.Machine.execInit ssel speed trig count mode s
  | .poll => Sys2Proof.Machine.execPoll s
  | .flush => Sys2Proof.Machine.execFlush s
  | .rxFw => Sys2Proof.Machine.execRxFw s

end Sys2Proof.Machine
end

