-- ==== Sys2Proof/Machine/Step.lean ====
section
/-! DEFINITION. One step of the block: the request at the port is decoded and run to completion as one atomic operation,
and then the outside world moves (20_memory.md R60, R62; 92_eei_decisions.md D1). -/

namespace Sys2Proof.Machine

open Sys2Proof

/-- The block idle, with no request at the port, lets the outside world move (70_reset_and_hazards.md R251; log 4). An
illegal request raises `IllegalOpError` and has no other effect (30_encoding.md R74). A request that is not answered (a
held RX_FW) stays at the port (45_rxpath.md R204). -/
def step (s : State) : Host.Outcome State Fault Refusal :=
  match s.reqs with
  | [] => .next (worldMove s)
  | r :: _ =>
    match decode r with
    | .error _ => .next (worldMove (raise .illegalOp s))
    | .ok i =>
      match exec i s with
      | .next t => .next (worldMove t)
      | .fault e => .fault e
      | .refused e => .refused e

/-- `s` with the request of an opcode-table word at the request port (30_encoding.md R70; log 7). -/
def State.withFetchWord (s : State) (nbits w : Nat) : State :=
  { s with reqs := tableRequest nbits w :: s.reqs.tail }

end Sys2Proof.Machine
end

