-- ==== Sys2Proof/Safety.lean ====
section
/-! DEFINITION. What the statements speak of: the invariants of the block, the answered request, the transmitted and the
failed frame, and the tables of the spec that the statements compare the model with. -/

namespace Sys2Proof.Machine

open Sys2Proof

/-! ### Invariants -/

/-- The premise on the time input: `now < 2^63` (10_state.md R24). -/
abbrev ClockOk (s : State) : Prop := s.now.toNat < 2 ^ 63

/-- The timer's registers against the time input: while running or with a nonzero paused accumulator the stopped
accumulator is 0, and a running timer was armed no later than now (10_state.md R23). The bounds on `pacc` and `sacc` are
what makes no 64-bit sum wrap (42_timer.md R141). -/
abbrev TimerOk (t : Timer) (now : Word64) : Prop :=
  (t.running = true ∨ t.pacc ≠ 0 → t.sacc = 0) ∧
  (t.running = true → t.start.toNat ≤ now.toNat ∧ t.pacc.toNat ≤ t.start.toNat) ∧
  (t.running = false → t.pacc.toNat ≤ now.toNat) ∧
  t.sacc.toNat ≤ now.toNat

/-- The range of a message timestamp (40_codec_rx.md R103). -/
abbrev TsOk (ts : BitVec 25) : Prop := -255 ≤ ts.toInt ∧ ts.toInt ≤ 16777215

/-- Every known car's record carries its own slot's id (10_state.md R31) and a timestamp in range. -/
abbrev RegistryOk (s : State) : Prop :=
  ∀ i : Fin 21, s.cars[i].known = true → s.cars[i].car.id.toNat = i.val ∧ TsOk s.cars[i].car.ts

/-- The records in valid result registers have timestamps in range (10_state.md R35, R37; 40_codec_rx.md R103). -/
abbrev ResultsOk (s : State) : Prop :=
  (s.rxt.valid = true → TsOk s.rxt.frame.ts) ∧ (s.csr.valid = true → TsOk s.csr.car.ts)

/-- The fault registers: `ERR` is 0 or a fault code whose bit of `ERRSEEN` is set; `ERRSEEN` has bits 1 to 8 only, and
none exactly when no fault was seen (10_state.md R40, 60_exceptions.md R220). -/
abbrev FaultRegsOk (s : State) : Prop :=
  s.err.toNat ≤ 8 ∧ (s.err ≠ 0 → s.errseen.getLsbD s.err.toNat = true) ∧ (s.err = 0 → s.errseen = 0) ∧
  s.errseen &&& 0xFE01#16 = 0

/-- A frame has been written to `TXQ` only if `TXB` holds one (10_state.md R38). -/
abbrev TxOk (s : State) : Prop := s.txq ≠ [] → s.txb.valid = true

/-- The invariant of the block. -/
abbrev Inv (s : State) : Prop :=
  ClockOk s ∧ TimerOk s.timer s.now ∧ RegistryOk s ∧ ResultsOk s ∧ FaultRegsOk s ∧ TxOk s

/-! ### Outcomes the statements compare with -/

/-- `s` with the request at the port answered by `status` (30_encoding.md R87). -/
def answered (status : Byte) (s : State) : State := { s with rspq := s.rspq ++ [status], reqs := s.reqs.tail }

/-- `s` after a frame was transmitted: `TXB` written, `TransmitReady` emitted, the frame appended to `TXQ`, response 0
(44_builder.md R189). -/
def sent (f : Frame) (s : State) : State :=
  answered 0 { s with txb := { valid := true, b := f }, evq := s.evq ++ [.transmitReady f], txq := s.txq ++ [f] }

/-- `s` after the `Write` of a frame failed: `TXB` and `TransmitReady` are kept, `DongleConnected(false)` follows, and
`TransportError` is raised (44_builder.md R189, 60_exceptions.md R225). -/
def notSent (f : Frame) (s : State) : State :=
  raise .transport
    { s with txb := { valid := true, b := f }, evq := s.evq ++ [.transmitReady f, .dongleConnected false] }

/-- `s` after a `Read` failed: `DongleConnected(false)` and `TransportError`, no byte removed (45_rxpath.md R205). -/
def notRead (s : State) : State := raise .transport { s with evq := s.evq ++ [.dongleConnected false] }

/-- The number three timer bytes spell, most significant first (20_memory.md R55). -/
def wireTime (tb : TimerBytes) : Nat := tb.tb0.toNat * 65536 + tb.tb1.toNat * 256 + tb.tb2.toNat

/-- What the timer field of a frame sent now must carry: the reading in centiseconds modulo 2^24, with the reading
written over the naturals, modulo 2^64 (42_timer.md R141, R142, R151, R152; 44_builder.md R191). -/
def timerNs (s : State) : Nat :=
  if s.timer.running then (s.now.toNat + 2 ^ 64 - s.timer.start.toNat + s.timer.pacc.toNat) % 2 ^ 64
  else s.timer.sacc.toNat

/-- The centisecond count of the timer field, 24 bits (42_timer.md R152). -/
def timerField (s : State) : Nat := timerNs s / 10000000 % 2 ^ 24

/-- The status frame's bytes from the four open tables (41_codec_tx.md R121, R124). -/
def statusFrame (rs : RaceStatus) (sc : SystemConfig) (tb : TimerBytes) : Frame :=
  #v[Config.params.rsCode rs.state ||| Config.params.pitCountBits sc.count ||| Config.params.pitTrigBits sc.trig,
     rs.speed, 0x00, 0x00, 0x00, 0x80, 0x00, Config.params.powerModeBits sc.mode, tb.tb0, tb.tb1, tb.tb2]

/-- The command frame's bytes, global form for id 0 and per-car form for any other (41_codec_tx.md R126). -/
def commandFrameBytes (rs : RaceStatus) (sc : SystemConfig) (id : Byte) (op : CmdOp) (arg : Byte) (tb : TimerBytes) :
    Frame :=
  let b0 := ((Config.params.rsCode rs.state ||| Config.params.pitCountBits sc.count |||
    Config.params.pitTrigBits sc.trig) &&& 0xF0#8) ||| 0x06#8
  let b7 := Config.params.powerModeBits sc.mode
  let code := Config.params.cmdCode op
  if id.toNat = 0 then #v[b0, rs.speed, 0x00, code, arg, 0x80, 0x00, b7, tb.tb0, tb.tb1, tb.tb2]
  else #v[b0, rs.speed, id, 0x00, 0x00, 0x80#8 ||| code, arg, b7, tb.tb0, tb.tb1, tb.tb2]

/-! ### Tables of the spec -/

/-- `ssel` (30_encoding.md R73). -/
def raceStateTable : List (Byte × RaceState) :=
  [(0, .stopped), (1, .running), (2, .paused), (3, .flaggedLc), (4, .flaggedNolc)]

/-- `opsel` (30_encoding.md R73). -/
def cmdOpTable : List (Byte × CmdOp) :=
  [(0, .noAction), (1, .setPitSpeed), (2, .setMaxSpeed), (3, .setMinSpeed), (4, .setRfLevel), (5, .setMaxBrake),
   (6, .setMinLapTime)]

/-- `trig` (30_encoding.md R73). -/
def trigTable : List (Byte × PitTrigger) := [(0, .enter), (1, .leave)]

/-- `count` (30_encoding.md R73). -/
def countTable : List (Byte × PitCount) := [(0, .disabled), (1, .enabled)]

/-- `mode` (30_encoding.md R73). -/
def modeTable : List (Byte × PowerMode) := [(0, .triggerPosition), (1, .pwm)]

/-- A row of opcode_table.json: the bits that must equal `match`, under `mask`. -/
structure TableRow where
  wanted : Word64
  mask : Word64
deriving DecidableEq, Repr

/-- The 27 rows of opcode_table.json, in its order (30_encoding.md R71, R72). -/
def opcodeTable : List TableRow :=
  [⟨0x0100000000000000, 0xFFFFFFFFFFFFFFFF⟩, ⟨0x0200000000000000, 0xFFFFFFFFFFFFFFFF⟩,
   ⟨0x0300000000000000, 0xFFFFFFFFFFFFFFFF⟩, ⟨0x0400000000000000, 0xFF000000FFFFFFFF⟩,
   ⟨0x0500000000000000, 0xFF000000000000FF⟩, ⟨0x0600000000000000, 0xFFFFFFFFFFFFFFFF⟩,
   ⟨0x0700000000000000, 0xFFFFFFFFFFFFFFFF⟩, ⟨0x1000000000000000, 0xFFFFFFFFFFFFFFFF⟩,
   ⟨0x1100000000000000, 0xFFFFFFFFFFFFFFFF⟩, ⟨0x1200000000000000, 0xFFFFFFFFFFFFFFFF⟩,
   ⟨0x1300000000000000, 0xFFFFFFFFFFFFFFFF⟩, ⟨0x1400000000000000, 0xFFFFFFFFFFFFFFFF⟩,
   ⟨0x1500000000000000, 0xFFFFFFFFFFFFFFFF⟩, ⟨0x1600000000000000, 0xFFFFFFFFFFFFFFFF⟩] ++
  [⟨0x2000000000000000, 0xFFFFFFFFFFFFFFFF⟩, ⟨0x2100000000000000, 0xFF00FFFFFFFFFFFF⟩,
   ⟨0x3000000000000000, 0xFF00FFFFFFFFFFFF⟩, ⟨0x3100000000000000, 0xFF00FFFFFFFFFFFF⟩,
   ⟨0x3200000000000000, 0xFF000000FFFFFFFF⟩, ⟨0x3300000000000000, 0xFFFFFFFFFFFFFFFF⟩,
   ⟨0x3400000000000000, 0xFF000000FFFFFFFF⟩, ⟨0x3500000000000000, 0xFFFFFFFFFFFFFFFF⟩,
   ⟨0x3600000000000000, 0xFFFFFFFFFFFFFFFF⟩, ⟨0x3700000000000000, 0xFF0000000000FFFF⟩,
   ⟨0x4000000000000000, 0xFFFFFFFFFFFFFFFF⟩, ⟨0x4100000000000000, 0xFFFFFFFFFFFFFFFF⟩,
   ⟨0x4200000000000000, 0xFFFFFFFFFFFFFFFF⟩]

end Sys2Proof.Machine
end

