-- ==== Sys2Proof/Certificates/Slice0/Obligations.lean ====
section
/-! DEFINITION. The statements for the provers, each a formalisation of numbered rules of spec/ or derived from them.
`answered k u` is `u` with the request at the port answered by status `k` (response appended, request retired);
`raise f s` is `s` with fault `f` taken, which `FaultEntryRecordsTheCode` states field by field. -/

open Sys2Proof Sys2Proof.Machine

/-! ### Encoding -/

/-- Every operation, with every operand at every value, is what its request decodes to (30_encoding.md R70 to R72). -/
def Obligations.DecodeOfEncodeIsTheOperation : Prop :=
  ∀ i : Instr, decode (encode i) = .ok i

/-- Each legal request word has one meaning: encoding what a request decodes to gives back its word, and its buffer for
the two operations that read the buffer port (30_encoding.md R70 to R72). -/
def Obligations.EncodeOfDecodeIsTheRequest : Prop :=
  ∀ (r : Request) (i : Instr), decode r = .ok i →
    (encode i).word = r.word ∧ (∀ b, i = .decTel b ∨ i = .decFw b → b = r.buf)

/-- 30_encoding.md R74: a request no row of the operation map matches raises `IllegalOpError` and has no other effect.
`worldMove` is the outside world's move after every step (log 1). -/
def Obligations.RequestsOutsideTheTableAreIllegal : Prop :=
  ∀ (s : State) (r : Request) (rest : List Request), s.reqs = r :: rest →
    (∀ row ∈ opcodeTable, r.word &&& row.mask ≠ row.wanted) →
    step s = .next (worldMove (raise .illegalOp s))

/-- 30_encoding.md R71: a request selects the row for which `(req & mask) = match`, and at most one row matches. -/
def Obligations.TableRowsDecodeAndAreDisjoint : Prop :=
  ∀ r : Request,
    ((∃ row ∈ opcodeTable, r.word &&& row.mask = row.wanted) → ∃ i, decode r = .ok i) ∧
    (∀ row ∈ opcodeTable, ∀ row' ∈ opcodeTable,
      r.word &&& row.mask = row.wanted → r.word &&& row'.mask = row'.wanted → row = row')

/-- Words written out in 95_test_vectors.md decode to the operations named there. -/
def Obligations.SpecWordsDecode : Prop :=
  decodeTableWord 64 0x1000000000000000 = some .tStart ∧
  decodeTableWord 64 0x3701C80101010000 = some (.init 1 200 1 1 1) ∧
  decodeTableWord 64 0x050505400003E800 = some (.encCmd 5 5 64 0 3 0xE8) ∧
  decodeTableWord 64 0x040003E800000000 = some (.encStatus 0 3 0xE8) ∧
  decodeTableWord 64 0x2105000000000000 = some (.rdCar 5) ∧
  decodeTableWord 64 0x3405054000000000 = some (.sendCmd 5 5 64) ∧
  decodeTableWord 64 0x3005000000000000 = some (.setState 5) ∧
  decodeTableWord 64 0x4200000000000000 = some .rxFw ∧
  decodeTableWord 64 0x1000000000000001 = none ∧
  decodeTableWord 64 0x3001010000000000 = none ∧
  decodeTableWord 64 0x0000000000000000 = none

/-- 30_encoding.md R90: each pseudo-operation is the SEND_CMD request with its opcode selector (R73); `id` is passed on
unchanged, 0 included. -/
def Obligations.PseudoOperationsAreSendCmdRequests : Prop :=
  ∀ id v : Byte,
    let request (opsel arg : Byte) : Word64 := 0x34#8 ++ id ++ opsel ++ arg ++ 0#32
    (encode (expandPseudo (.setPitSpeed id v))).word = request 1 v ∧
    (encode (expandPseudo (.setCarMaxSpeed id v))).word = request 2 v ∧
    (encode (expandPseudo (.setCarMinSpeed id v))).word = request 3 v ∧
    (encode (expandPseudo (.setRfLevel id v))).word = request 4 v ∧
    (encode (expandPseudo (.setMaxBrake id v))).word = request 5 v ∧
    (encode (expandPseudo (.setMinLapTime id v))).word = request 6 v ∧
    (encode (expandPseudo (.sendNop id))).word = request 0 0

/-! ### The step -/

/-- A step runs the decoded operation on the state, and then the outside world moves (20_memory.md R60, R62; log 1). -/
def Obligations.StepRunsTheDecodedOperation : Prop :=
  ∀ (s t : State) (r : Request) (rest : List Request) (i : Instr),
    s.reqs = r :: rest → decode r = .ok i → exec i s = .next t → step s = .next (worldMove t)

/-- With no request the block is idle: only the outside world moves (70_reset_and_hazards.md R251; logs 1 and 4). -/
def Obligations.IdleBlockOnlyLetsTheWorldMove : Prop :=
  ∀ s : State, s.reqs = [] → step s = .next (worldMove s)

/-- The outside world's move obeys the laws of the inputs (10_state.md R24, 20_memory.md R62): `now` never decreases and
stays below 2^63, every lawful offer is taken, bytes are only appended to `RXQ`, requests only queue up, and nothing of
the block itself changes. The move itself is the model's (logs 1 and 2). -/
def Obligations.WorldMoveObeysTheInputLaws : Prop :=
  ∀ s : State,
    s.now.toNat ≤ (worldMove s).now.toNat ∧
    (s.now.toNat < 2 ^ 63 → (worldMove s).now.toNat < 2 ^ 63) ∧
    (s.now.toNat ≤ (nextMoment s).now.toNat → (nextMoment s).now.toNat < 2 ^ 63 →
      (worldMove s).now = (nextMoment s).now) ∧
    worldMove s =
      { s with
        now := (worldMove s).now, rxq := s.rxq ++ (nextMoment s).rx, reqs := s.reqs ++ (nextMoment s).reqs,
        readOk := (nextMoment s).readOk, writeOk := (nextMoment s).writeOk, world := s.world.tail, tick := s.tick + 1 }

/-- Nothing stops the model: every state has a next state, whatever request is presented. A fault leaves the block ready
for the next request (60_exceptions.md R225, R227); that it is therefore a next state is log 20 (DEDUCED), that an idle
block takes a step log 4 (DESIGN CHOICE), and that a held RX_FW answers a next state, where the spec's U10 says it has no
step, log 6 (DEDUCED). -/
def Obligations.EveryStepIsANextState : Prop :=
  ∀ s : State, ∃ t, step s = .next t

/-! ### Faults and responses -/

/-- 60_exceptions.md R225: fault entry sets `ERR` to the code, adds the code's bit to `ERRSEEN`, answers with the code,
and changes nothing else; the codes are numbered as R220 says. -/
def Obligations.FaultEntryRecordsTheCode : Prop :=
  (∀ (f : FaultCode) (s : State),
    (raise f s).err = codeOf f ∧
    (∀ k, k < 16 → (raise f s).errseen.getLsbD k = (s.errseen.getLsbD k || decide (k = (codeOf f).toNat))) ∧
    raise f s = answered (codeOf f) { s with err := codeOf f, errseen := (raise f s).errseen }) ∧
  [codeOf .frameLength, codeOf .carIdRange, codeOf .notInit, codeOf .noFrame, codeOf .illegalOp, codeOf .operandRange,
    codeOf .transport, codeOf .unknownCar] = [1, 2, 3, 4, 5, 6, 7, 8]

/-- 30_encoding.md R87: an operation gives one response, 0 or a fault code, and the request leaves the port; only RX_FW
can be held instead, with fewer than five bytes waiting and no failed `Read`, and then nothing changes (45_rxpath.md R204;
that being held is a next state is log 6, DEDUCED). -/
def Obligations.EveryRequestGetsOneResponse : Prop :=
  ∀ (i : Instr) (s t : State), exec i s = .next t →
    (∃ k : Byte, k.toNat ≤ 8 ∧ t.rspq = s.rspq ++ [k] ∧ t.reqs = s.reqs.tail) ∨
    (i = .rxFw ∧ s.rxq.length < 5 ∧ s.readOk = true ∧ t = s)

/-- 10_state.md R40: an operation answered 0 leaves `ERR` and `ERRSEEN`; one answered with code `k` leaves `ERR = k` and
adds bit `k`, clearing none. -/
def Obligations.FaultRegistersFollowTheResponse : Prop :=
  ∀ (i : Instr) (s t : State) (k : Byte), exec i s = .next t → t.rspq = s.rspq ++ [k] →
    (k = 0 → t.err = s.err ∧ t.errseen = s.errseen) ∧
    (k ≠ 0 → t.err = k ∧
      ∀ j, j < 16 → t.errseen.getLsbD j = (s.errseen.getLsbD j || decide (j = k.toNat)))

/-- 60_exceptions.md R225: but for `TransportError` (7) and `CarIdRangeError` (2) inside POLL, a faulting operation has
changed nothing but `ERR` and `ERRSEEN`. -/
def Obligations.FaultsArePrecise : Prop :=
  ∀ (i : Instr) (s t : State) (k : Byte), exec i s = .next t → t.rspq = s.rspq ++ [k] →
    k ≠ 0 → k ≠ 7 → ¬(i = .poll ∧ k = 2) →
    t = answered k { s with err := k, errseen := t.errseen }

/-- 60_exceptions.md R224, 20_memory.md R53: a failed `Read` or `Write` moves no byte and no frame, and its last event is
`DongleConnected(false)`. -/
def Obligations.TransportErrorsMoveNothing : Prop :=
  ∀ (i : Instr) (s t : State), exec i s = .next t → t.rspq = s.rspq ++ [7] →
    t.rxq = s.rxq ∧ t.txq = s.txq ∧ ∃ es, t.evq = s.evq ++ es ++ [.dongleConnected false]

/-! ### Inbound codec -/

/-- 40_codec_rx.md R100, R102: DEC_TEL decodes exactly 13 bytes: the fields with their byte orders, the timestamp over
the integers; it puts them in `RXT` and changes nothing else. A buffer of any other length raises `FrameLengthError`
before any write. -/
def Obligations.DecTelDecodesEveryFrame : Prop :=
  (∀ buf, decode ⟨0x0100000000000000, buf⟩ = .ok (.decTel buf)) ∧
  (∀ (s : State) (buf : List Byte), buf.length ≠ 13 → exec (.decTel buf) s = .next (raise .frameLength s)) ∧
  ∀ (s : State) (b0 b1 b2 b3 b4 b5 b6 b7 b8 b9 b10 b11 b12 : Byte), ∃ f : RxTel,
    f.status = b0 ∧ f.id = b1 ∧ f.lapTicks.toNat = b2.toNat * 256 + b3.toNat ∧
    f.lapCount.toNat = b6.toNat * 256 + b5.toNat ∧ f.power = b7 ∧ f.firmware = b8 ∧ f.buttons = b9 ∧
    f.ts.toInt = (b10.toNat : Int) * 65536 + b11.toNat * 256 + b12.toNat - b4.toNat ∧
    exec (.decTel [b0, b1, b2, b3, b4, b5, b6, b7, b8, b9, b10, b11, b12]) s =
      .next (answered 0 { s with rxt := { valid := true, frame := f } })

/-- 40_codec_rx.md R105, R106: DEC_FW keeps the first two of exactly five bytes and ignores the rest; a buffer of any
other length raises `FrameLengthError` before any write. -/
def Obligations.DecFwKeepsTheFirstTwoBytes : Prop :=
  (∀ buf, decode ⟨0x0200000000000000, buf⟩ = .ok (.decFw buf)) ∧
  (∀ (s : State) (buf : List Byte), buf.length ≠ 5 → exec (.decFw buf) s = .next (raise .frameLength s)) ∧
  ∀ (s : State) (major minor x y z : Byte),
    exec (.decFw [major, minor, x, y, z]) s =
      .next (answered 0 { s with fwv := { valid := true, major := major, minor := minor } })

/-- 40_codec_rx.md R107, R108 (bits of 30_encoding.md R77 to R79): UNPACK copies the numbers, takes one bit for each flag
and the low seven bits of power, puts the record in `CSR` and changes nothing else; with no frame in `RXT` it raises
`NoFrameError`. -/
def Obligations.UnpackAppliesTheMasks : Prop :=
  (∀ buf, decode ⟨0x0300000000000000, buf⟩ = .ok .unpack) ∧
  (∀ s : State, s.rxt.valid = false → exec .unpack s = .next (raise .noFrame s)) ∧
  ∀ s : State, s.rxt.valid = true → ∃ c : CarState,
    c.reset = s.rxt.frame.status.getLsbD 0 ∧ c.link = s.rxt.frame.status.getLsbD 1 ∧
    c.inPit = s.rxt.frame.status.getLsbD 4 ∧ c.id = s.rxt.frame.id ∧ c.lapTicks = s.rxt.frame.lapTicks ∧
    c.lapCount = s.rxt.frame.lapCount ∧ c.powerRaw.toNat = s.rxt.frame.power.toNat % 128 ∧
    c.onTrack = s.rxt.frame.power.getLsbD 7 ∧ c.battLow = s.rxt.frame.buttons.getLsbD 2 ∧
    c.trackCall = s.rxt.frame.buttons.getLsbD 3 ∧ c.lapShort = s.rxt.frame.buttons.getLsbD 4 ∧
    c.up = s.rxt.frame.buttons.getLsbD 5 ∧ c.down = s.rxt.frame.buttons.getLsbD 6 ∧
    c.round = s.rxt.frame.buttons.getLsbD 7 ∧ c.ts = s.rxt.frame.ts ∧ unpackFrame s.rxt.frame = c ∧
    exec .unpack s = .next (answered 0 { s with csr := { valid := true, car := c } })

/-- 40_codec_rx.md R104, R110: the last lap time times 99.25 is the raw field, the scaled power times 127 is ten times
the raw field, and the scales end at 65535*4/397 and 10. -/
def Obligations.RealValuedFieldsAreExact : Prop :=
  (∀ t : BitVec 16, lapSeconds t * (9925 / 100) = t.toNat ∧ 0 ≤ lapSeconds t ∧ lapSeconds t ≤ 65535 * 4 / 397) ∧
  (∀ p : BitVec 7, powerScaled p * 127 = p.toNat * 10 ∧ 0 ≤ powerScaled p ∧ powerScaled p ≤ 10)

/-! ### Outbound codec -/

/-- 41_codec_tx.md R124, R125 (op 0x04, 30_encoding.md R72): ENC_STATUS puts the status frame with the operand's timer bytes in `TXB` and changes
nothing else. -/
def Obligations.EncStatusPutsTheStatusFrame : Prop :=
  (∀ tb0 tb1 tb2 buf, decode ⟨0x04#8 ++ tb0 ++ tb1 ++ tb2 ++ 0#32, buf⟩ = .ok (.encStatus tb0 tb1 tb2)) ∧
  ∀ (s : State) (tb0 tb1 tb2 : Byte), s.ctxValid = true →
    let frame := statusFrame s.rs s.sc { tb0 := tb0, tb1 := tb1, tb2 := tb2 }
    exec (.encStatus tb0 tb1 tb2) s = .next (answered 0 { s with txb := { valid := true, b := frame } })

/-- 41_codec_tx.md R126, R128 (op 0x05, 30_encoding.md R72): with the context valid, the target id 0 to 20 and the opcode selector legal, ENC_CMD puts
the command frame in `TXB` and changes nothing else. -/
def Obligations.EncCmdPutsTheCommandFrame : Prop :=
  (∀ id opsel arg tb0 tb1 tb2 buf, decode ⟨0x05#8 ++ id ++ opsel ++ arg ++ tb0 ++ tb1 ++ tb2 ++ 0#8, buf⟩ =
    .ok (.encCmd id opsel arg tb0 tb1 tb2)) ∧
  ∀ (s : State) (id opsel arg tb0 tb1 tb2 : Byte) (op : CmdOp),
    s.ctxValid = true → id.toNat ≤ 20 → (opsel, op) ∈ cmdOpTable →
    let frame := commandFrameBytes s.rs s.sc id op arg { tb0 := tb0, tb1 := tb1, tb2 := tb2 }
    exec (.encCmd id opsel arg tb0 tb1 tb2) s = .next (answered 0 { s with txb := { valid := true, b := frame } })

/-- 41_codec_tx.md R128, 44_builder.md R186, 60_exceptions.md R226: with the context valid, a target id above 20 is
reported before an opcode selector above 6. -/
def Obligations.CommandChecksComeInOrder : Prop :=
  ∀ (s : State) (id opsel arg tb0 tb1 tb2 : Byte), s.ctxValid = true →
    (20 < id.toNat → exec (.encCmd id opsel arg tb0 tb1 tb2) s = .next (raise .carIdRange s) ∧
      exec (.sendCmd id opsel arg) s = .next (raise .carIdRange s)) ∧
    (id.toNat ≤ 20 → 6 < opsel.toNat → exec (.encCmd id opsel arg tb0 tb1 tb2) s = .next (raise .operandRange s) ∧
      exec (.sendCmd id opsel arg) s = .next (raise .operandRange s))

/-- 70_reset_and_hazards.md R252 (1): until INIT has completed, each of the seven context readers raises `NotInitError`,
whatever its operands. -/
def Obligations.ContextReadersNeedInit : Prop :=
  ∀ (s : State) (a b c d e f : Byte), s.ctxValid = false →
    exec (.encStatus a b c) s = .next (raise .notInit s) ∧
    exec (.encCmd a b c d e f) s = .next (raise .notInit s) ∧
    exec (.setState a) s = .next (raise .notInit s) ∧
    exec (.setSpeed a) s = .next (raise .notInit s) ∧
    exec (.setConfig a b c) s = .next (raise .notInit s) ∧
    exec .sendStatus s = .next (raise .notInit s) ∧
    exec (.sendCmd a b c) s = .next (raise .notInit s)

/-- 41_codec_tx.md R129 (the spec's own derivation), R122, R123, R132: in every command frame, whatever the open
parameters, exactly one slot is populated, byte 0 is the status byte with its low nibble replaced by 6, byte 5 carries
the marker, and the per-car opcode is recoverable from its low seven bits. -/
def Obligations.CommandFrameSlotsAreExclusive : Prop :=
  ∀ (p : Config.Params) (rs : RaceStatus) (sc : SystemConfig) (id : Byte) (op : CmdOp) (arg : Byte) (tb : TimerBytes),
    let f := encodeCommand p rs sc id op arg tb
    let g := encodeStatus p rs sc tb
    f[0].toNat = g[0].toNat / 16 * 16 + 6 ∧ f[5].toNat / 128 = 1 ∧ (p.cmdCode op).toNat < 128 ∧
    p.cmdCode .noAction = 0 ∧
    (id = 0 → f[2] = 0 ∧ f[3] = p.cmdCode op ∧ f[4] = arg ∧ f[5] = 0x80 ∧ f[6] = 0) ∧
    (id ≠ 0 → f[2] = id ∧ f[3] = 0 ∧ f[4] = 0 ∧ f[5].toNat % 128 = (p.cmdCode op).toNat ∧ f[6] = arg)

/-! ### The race timer -/

/-- 42_timer.md R143: T_START arms a timer that is not running and does nothing to one that is. -/
def Obligations.TStartArmsTheTimer : Prop :=
  (∀ buf, decode ⟨0x1000000000000000, buf⟩ = .ok .tStart) ∧
  ∀ s : State,
    (s.timer.running = true → exec .tStart s = .next (answered 0 s)) ∧
    (s.timer.running = false → exec .tStart s =
      .next (answered 0 { s with timer := { running := true, start := s.now, pacc := s.timer.pacc, sacc := 0 } }))

/-- 42_timer.md R144: T_PAUSE folds the time since arming into the paused accumulator, modulo 2^64 (R141), and stops
counting; it does nothing to a timer that is not running. -/
def Obligations.TPauseFoldsTheElapsedTime : Prop :=
  (∀ buf, decode ⟨0x1100000000000000, buf⟩ = .ok .tPause) ∧
  ∀ s : State,
    (s.timer.running = false → exec .tPause s = .next (answered 0 s)) ∧
    (s.timer.running = true →
      let folded := BitVec.ofNat 64 (s.timer.pacc.toNat + s.now.toNat + 2 ^ 64 - s.timer.start.toNat)
      exec .tPause s = .next (answered 0 { s with
        timer := { running := false, start := s.timer.start, pacc := folded, sacc := s.timer.sacc } }))

/-- 42_timer.md R145 (no effect while Running is the spec's decision D8): T_RESUME re-arms exactly a timer that is not
running and has a nonzero paused accumulator. -/
def Obligations.TResumeRearmsAPausedTimer : Prop :=
  (∀ buf, decode ⟨0x1200000000000000, buf⟩ = .ok .tResume) ∧
  ∀ s : State,
    (s.timer.running = true ∨ s.timer.pacc = 0 → exec .tResume s = .next (answered 0 s)) ∧
    (s.timer.running = false → s.timer.pacc ≠ 0 → exec .tResume s =
      .next (answered 0 { s with timer := { s.timer with running := true, start := s.now } }))

/-- 42_timer.md R146 (the Paused and Stopped cases are the spec's decision D9): T_STOP adds the paused accumulator, and
the time since arming when running, to the stopped accumulator, modulo 2^64, clears `pacc` and halts. -/
def Obligations.TStopFoldsEverything : Prop :=
  (∀ buf, decode ⟨0x1300000000000000, buf⟩ = .ok .tStop) ∧
  ∀ s : State,
    (s.timer.running = true →
      let folded := BitVec.ofNat 64
        (s.timer.sacc.toNat + s.timer.pacc.toNat + s.now.toNat + 2 ^ 64 - s.timer.start.toNat)
      exec .tStop s = .next (answered 0 { s with
        timer := { running := false, start := s.timer.start, pacc := 0, sacc := folded } })) ∧
    (s.timer.running = false →
      let folded := BitVec.ofNat 64 (s.timer.sacc.toNat + s.timer.pacc.toNat)
      exec .tStop s = .next (answered 0 { s with
        timer := { running := false, start := s.timer.start, pacc := 0, sacc := folded } }))

/-- 42_timer.md R142, R148 to R152: the three readings of the timer, over the naturals: nanoseconds modulo 2^64,
centiseconds by floor division by 10 000 000, and those modulo 2^24; `RES` alone is written. -/
def Obligations.TimerReadingsAreExact : Prop :=
  (∀ buf, decode ⟨0x1400000000000000, buf⟩ = .ok .tValue ∧ decode ⟨0x1500000000000000, buf⟩ = .ok .tValueCs ∧
    decode ⟨0x1600000000000000, buf⟩ = .ok .tBytes) ∧
  ∀ s : State,
    exec .tValue s = .next (answered 0 { s with res := BitVec.ofNat 64 (timerNs s) }) ∧
    exec .tValueCs s = .next (answered 0 { s with res := BitVec.ofNat 64 (timerNs s / 10000000) }) ∧
    exec .tBytes s = .next (answered 0 { s with res := BitVec.ofNat 64 (timerNs s / 10000000 % 16777216) })

/-- 42_timer.md R147 (the spec's own derivation): the state machine Stopped, Running, Paused under the four
state-changing operations, for timers that meet the invariant of 10_state.md R23. -/
def Obligations.TimerStatesFollowTheTransitionTable : Prop :=
  ∀ s t : State, TimerOk s.timer s.now →
    (exec .tStart s = .next t → timerStateOf t.timer = .running) ∧
    (exec .tPause s = .next t → timerStateOf t.timer =
      (match timerStateOf s.timer with
        | .running => if timerNs s = 0 then .stopped else .paused
        | st => st)) ∧
    (exec .tResume s = .next t → timerStateOf t.timer =
      (match timerStateOf s.timer with
        | .paused => .running
        | st => st)) ∧
    (exec .tStop s = .next t → timerStateOf t.timer = .stopped ∧ t.timer.sacc.toNat =
      (match timerStateOf s.timer with
        | .running => timerNs s
        | .paused => s.timer.pacc.toNat
        | .stopped => s.timer.sacc.toNat))

/-- 42_timer.md R141, R155: for a timer that meets the invariant the reading never exceeds `now` (so no 64-bit sum
wraps) and does not decrease as `now` grows. -/
def Obligations.TimerReadingIsMonotoneAndNeverWraps : Prop :=
  ∀ (t : Timer) (now later : Word64), TimerOk t now → now.toNat ≤ later.toNat → later.toNat < 2 ^ 63 →
    (timerValue t now).toNat ≤ now.toNat ∧
    (timerValue t now).toNat ≤ (timerValue t later).toNat ∧
    (t.running = true →
      (timerValue t later).toNat = (timerValue t now).toNat + (later.toNat - now.toNat))

/-- 42_timer.md R154, R155: a timer paused at a nonzero reading reads zero and spells the bytes 00 00 00 at any later
time; re-armed by T_RESUME or T_START it continues from the reading it had; stopped and started it restarts from 0. -/
def Obligations.PausedTimerReadsZeroAndContinues : Prop :=
  ∀ (t : Timer) (now later : Word64), TimerOk t now → t.running = true → timerValue t now ≠ 0 →
    now.toNat ≤ later.toNat →
    timerStateOf (timerPause t now) = .paused ∧
    timerValue (timerPause t now) later = 0 ∧
    csBytes (timerPause t now) later = { tb0 := 0, tb1 := 0, tb2 := 0 } ∧
    timerValue (timerResume (timerPause t now) later) later = timerValue t now ∧
    timerValue (timerStart (timerPause t now) later) later = timerValue t now ∧
    timerValue (timerStart (timerStop t now) later) later = 0

/-! ### The registry -/

/-- 43_registry.md R164 to R167 (op 0x20, 30_encoding.md R72): UPDATE diffs the frame in `RXT` against the slot (against lap count 0 and not in the pit
lane for a first sighting, whose two diffs the parameter may suppress, R163), replaces the slot wholesale, and emits the
aggregates over the known cars of the registry after the replacement; nothing else changes. The aggregates' own order is
the spec's decision D17. -/
def Obligations.UpdateDiffsReplacesAndAggregates : Prop :=
  (∀ buf, decode ⟨0x2000000000000000, buf⟩ = .ok .update) ∧
  ∀ (s : State) (i : Fin 21), s.rxt.valid = true → s.rxt.frame.id.toNat = i.val →
    let new := unpackFrame s.rxt.frame
    let old := s.cars[i]
    let prevLaps := if old.known then old.car.lapCount.toNat else 0
    let prevPit := old.known && old.car.inPit
    let laps := if prevLaps < new.lapCount.toNat
      then [Event.newLap new.id new.lapCount new.ts new.lapTicks new.lapShort] else []
    let pits := if new.inPit && !prevPit then [Event.pitEnter new.id new.ts]
      else if !new.inPit && prevPit then [Event.pitLeave new.id new.ts] else []
    let perCar := if !old.known && Config.params.suppressFirstFrameEvents then [] else laps ++ pits
    let cars := s.cars.set i { known := true, car := new }
    ∃ tc off : BitVec 21,
      (∀ j : Fin 21, tc.getLsbD j = (cars[j].known && cars[j].car.trackCall)) ∧
      (∀ j : Fin 21, off.getLsbD j = (cars[j].known && !cars[j].car.onTrack)) ∧
      exec .update s = .next (answered 0 { s with cars := cars, evq :=
        s.evq ++ perCar ++ [.trackCall (decide (tc ≠ 0)) tc, .allCarsOnTrack (decide (off = 0)) off] })

/-- 43_registry.md R160, R161: with no frame UPDATE raises `NoFrameError`; a frame whose id is above 20 raises
`CarIdRangeError`: no slot changes and no event is emitted. -/
def Obligations.UpdateFaultsChangeNoSlot : Prop :=
  ∀ s : State,
    (s.rxt.valid = false → exec .update s = .next (raise .noFrame s)) ∧
    (s.rxt.valid = true → 20 < s.rxt.frame.id.toNat → exec .update s = .next (raise .carIdRange s))

/-- 43_registry.md R170: RD_CAR copies a known car's slot to `CSR` and changes nothing else; an id above 20, and then an
unknown car, is a fault. -/
def Obligations.RdCarReadsAKnownSlot : Prop :=
  (∀ id buf, decode ⟨0x21#8 ++ id ++ 0#48, buf⟩ = .ok (.rdCar id)) ∧
  ∀ (s : State) (id : Byte),
    (20 < id.toNat → exec (.rdCar id) s = .next (raise .carIdRange s)) ∧
    (∀ i : Fin 21, id.toNat = i.val →
      (s.cars[i].known = false → exec (.rdCar id) s = .next (raise .unknownCar s)) ∧
      (s.cars[i].known = true →
        exec (.rdCar id) s = .next (answered 0 { s with csr := { valid := true, car := s.cars[i].car } })))

/-- 10_state.md R34: slots are never cleared: the set of known cars only grows, over every step. -/
def Obligations.KnownCarsOnlyGrow : Prop :=
  ∀ s t : State, step s = .next t → ∀ i : Fin 21, s.cars[i].known = true → t.cars[i].known = true

/-- 10_state.md R32: only UPDATE, directly or inside POLL, writes slots, and it replaces at most the one slot of the frame
then in `RXT`, wholesale. -/
def Obligations.SlotsAreReplacedWholesaleByUpdateAlone : Prop :=
  ∀ (i : Instr) (s t : State), exec i s = .next t →
    (i ≠ .update → i ≠ .poll → t.cars = s.cars) ∧
    (∀ j : Fin 21, t.cars[j] = s.cars[j] ∨
      (t.rxt.frame.id.toNat = j.val ∧ t.cars[j] = { known := true, car := unpackFrame t.rxt.frame }))

/-! ### The builder -/

/-- 44_builder.md R181: with legal selectors INIT writes all five context fields and sets `CTX.valid`; nothing is
transmitted and nothing else changes. A selector outside its legal set raises `OperandRangeError` before any write. -/
def Obligations.InitWritesTheWholeContext : Prop :=
  (∀ ssel speed trig count mode buf,
    decode ⟨0x37#8 ++ ssel ++ speed ++ trig ++ count ++ mode ++ 0#16, buf⟩ = .ok (.init ssel speed trig count mode)) ∧
  ∀ (s : State) (ssel speed trig count mode : Byte),
    (4 < ssel.toNat ∨ 1 < trig.toNat ∨ 1 < count.toNat ∨ 1 < mode.toNat →
      exec (.init ssel speed trig count mode) s = .next (raise .operandRange s)) ∧
    ∀ (st : RaceState) (tr : PitTrigger) (ct : PitCount) (md : PowerMode),
      (ssel, st) ∈ raceStateTable → (trig, tr) ∈ trigTable → (count, ct) ∈ countTable → (mode, md) ∈ modeTable →
      exec (.init ssel speed trig count mode) s = .next (answered 0 { s with
        ctxValid := true, rs := { state := st, speed := speed }, sc := { trig := tr, count := ct, mode := md } })

/-- 44_builder.md R184: SET_CONFIG checks the context and then the three selectors, writes the three configuration
fields, transmits nothing and changes nothing else. -/
def Obligations.SetConfigWritesWithoutSending : Prop :=
  (∀ trig count mode buf, decode ⟨0x32#8 ++ trig ++ count ++ mode ++ 0#32, buf⟩ = .ok (.setConfig trig count mode)) ∧
  ∀ (s : State) (trig count mode : Byte),
    (s.ctxValid = false → exec (.setConfig trig count mode) s = .next (raise .notInit s)) ∧
    (s.ctxValid = true → (1 < trig.toNat ∨ 1 < count.toNat ∨ 1 < mode.toNat) →
      exec (.setConfig trig count mode) s = .next (raise .operandRange s)) ∧
    ∀ (tr : PitTrigger) (ct : PitCount) (md : PowerMode),
      s.ctxValid = true → (trig, tr) ∈ trigTable → (count, ct) ∈ countTable → (mode, md) ∈ modeTable →
      exec (.setConfig trig count mode) s =
        .next (answered 0 { s with sc := { trig := tr, count := ct, mode := md } })

/-- 44_builder.md R182: with the context valid, a race-state selector above 4 raises `OperandRangeError` in SET_STATE
before any write. -/
def Obligations.SetStateChecksItsSelector : Prop :=
  ∀ (s : State) (ssel : Byte), s.ctxValid = true → 4 < ssel.toNat →
    exec (.setState ssel) s = .next (raise .operandRange s)

/-- 44_builder.md R180, R182, R183, R189 (op 0x30, 0x31, 30_encoding.md R72): SET_STATE writes the race state, and SET_SPEED the global speed (any byte),
first, and then transmits the status frame of the post-mutation state with the timer's bytes; a failed `Write` keeps the
register write. -/
def Obligations.SetStateAndSetSpeedMutateThenSend : Prop :=
  (∀ p0 buf, decode ⟨0x30#8 ++ p0 ++ 0#48, buf⟩ = .ok (.setState p0) ∧
    decode ⟨0x31#8 ++ p0 ++ 0#48, buf⟩ = .ok (.setSpeed p0)) ∧
  ∀ (s : State) (ssel speed : Byte) (st : RaceState), s.ctxValid = true → (ssel, st) ∈ raceStateTable →
    ∃ tb : TimerBytes, wireTime tb = timerField s ∧
      let rs1 : RaceStatus := { state := st, speed := s.rs.speed }
      let rs2 : RaceStatus := { state := s.rs.state, speed := speed }
      (s.writeOk = true →
        exec (.setState ssel) s = .next (sent (statusFrame rs1 s.sc tb) { s with rs := rs1 }) ∧
        exec (.setSpeed speed) s = .next (sent (statusFrame rs2 s.sc tb) { s with rs := rs2 })) ∧
      (s.writeOk = false →
        exec (.setState ssel) s = .next (notSent (statusFrame rs1 s.sc tb) { s with rs := rs1 }) ∧
        exec (.setSpeed speed) s = .next (notSent (statusFrame rs2 s.sc tb) { s with rs := rs2 }))

/-- 44_builder.md R185 (R189, R191): SEND_STATUS transmits the status frame with the timer's bytes and changes no context
register; before INIT it raises `NotInitError`. -/
def Obligations.SendStatusTransmitsTheStatusFrame : Prop :=
  (∀ buf, decode ⟨0x3300000000000000, buf⟩ = .ok .sendStatus) ∧
  (∀ s : State, s.ctxValid = false → exec .sendStatus s = .next (raise .notInit s)) ∧
  ∀ s : State, s.ctxValid = true →
    ∃ tb : TimerBytes, wireTime tb = timerField s ∧
      (s.writeOk = true → exec .sendStatus s = .next (sent (statusFrame s.rs s.sc tb) s)) ∧
      (s.writeOk = false → exec .sendStatus s = .next (notSent (statusFrame s.rs s.sc tb) s))

/-- 44_builder.md R186, R189, R191 (op 0x34, 30_encoding.md R72): with the context valid, the target id 0 to 20 and the opcode selector legal, SEND_CMD
transmits the command frame with the timer's bytes and changes no context register. -/
def Obligations.SendCmdTransmitsTheCommandFrame : Prop :=
  (∀ id opsel arg buf, decode ⟨0x34#8 ++ id ++ opsel ++ arg ++ 0#32, buf⟩ = .ok (.sendCmd id opsel arg)) ∧
  ∀ (s : State) (id opsel arg : Byte) (op : CmdOp),
    s.ctxValid = true → id.toNat ≤ 20 → (opsel, op) ∈ cmdOpTable →
    ∃ tb : TimerBytes, wireTime tb = timerField s ∧
      (s.writeOk = true →
        exec (.sendCmd id opsel arg) s = .next (sent (commandFrameBytes s.rs s.sc id op arg tb) s)) ∧
      (s.writeOk = false →
        exec (.sendCmd id opsel arg) s = .next (notSent (commandFrameBytes s.rs s.sc id op arg tb) s))

/-- 41_codec_tx.md R130, R131, 44_builder.md R187 to R189 (op 0x06, 0x07, 0x35, 0x36, 30_encoding.md R72): the two
literal frames, put in `TXB` by ENC_FWREQ and ENC_FREE
and transmitted by SEND_FWREQ and SEND_FREE, from every state, before INIT included; nothing else changes. -/
def Obligations.LiteralFramesNeedNoContext : Prop :=
  let fwreq : Frame := #v[0x06, 0x06, 0x06, 0x06, 0x00, 0x00, 0x00, 0x01, 0x00, 0x00, 0x00]
  let free : Frame := #v[0x0F, 0xFF, 0x00, 0x00, 0x00, 0x80, 0x00, 0x80, 0x00, 0x00, 0x00]
  (∀ buf, decode ⟨0x0600000000000000, buf⟩ = .ok .encFwreq ∧ decode ⟨0x0700000000000000, buf⟩ = .ok .encFree ∧
    decode ⟨0x3500000000000000, buf⟩ = .ok .sendFwreq ∧ decode ⟨0x3600000000000000, buf⟩ = .ok .sendFree) ∧
  ∀ s : State,
    exec .encFwreq s = .next (answered 0 { s with txb := { valid := true, b := fwreq } }) ∧
    exec .encFree s = .next (answered 0 { s with txb := { valid := true, b := free } }) ∧
    (s.writeOk = true → exec .sendFwreq s = .next (sent fwreq s) ∧ exec .sendFree s = .next (sent free s)) ∧
    (s.writeOk = false → exec .sendFwreq s = .next (notSent fwreq s) ∧ exec .sendFree s = .next (notSent free s))

/-! ### The receive path -/

/-- 45_rxpath.md R201, R202, R205 (op 0x40, 30_encoding.md R72): POLL with nothing waiting writes `RES = 0`; with a number of bytes that is no multiple
of 13 it discards them all, emits `FrameFlushRequired` and writes `RES = 2`, or, when the `Read` fails, discards none. -/
def Obligations.PollIdlesOrFlushes : Prop :=
  (∀ buf, decode ⟨0x4000000000000000, buf⟩ = .ok .poll) ∧
  ∀ s : State,
    (s.rxq = [] → exec .poll s = .next (answered 0 { s with res := 0 })) ∧
    (s.rxq.length % 13 ≠ 0 → s.readOk = true → exec .poll s =
      .next (answered 0 { s with rxq := [], evq := s.evq ++ [.frameFlushRequired], res := 2 })) ∧
    (s.rxq ≠ [] → s.readOk = false → exec .poll s = .next (notRead s))

/-- 45_rxpath.md R200, R201: with a nonzero multiple of 13 bytes waiting POLL takes the first 13, decodes them into
`RXT`, writes `RES = 1` and performs UPDATE, its fault included: an id above 20 keeps those effects. With an id 0 to 20
it completes. -/
def Obligations.PollTakesOneFrameAndUpdates : Prop :=
  ∀ (s : State) (frame rest : List Byte),
    s.rxq = frame ++ rest → frame.length = 13 → rest.length % 13 = 0 → s.readOk = true →
    ∃ f : RxTel, decodeTelemetry frame = some f ∧
      exec .poll s = exec .update { s with rxq := rest, rxt := { valid := true, frame := f }, res := 1 } ∧
      (20 < f.id.toNat → exec .poll s =
        .next (raise .carIdRange { s with rxq := rest, rxt := { valid := true, frame := f }, res := 1 })) ∧
      (f.id.toNat ≤ 20 → ∃ (i : Fin 21) (es : List Event), f.id.toNat = i.val ∧ exec .poll s =
        .next (answered 0 { s with
          rxq := rest, rxt := { valid := true, frame := f }, res := 1,
          cars := s.cars.set i { known := true, car := unpackFrame f }, evq := s.evq ++ es }))

/-- 45_rxpath.md R203, R205: FLUSH discards every waiting byte, aligned or not, always emits `FrameFlushRequired`, and
writes the number discarded (free when it does not fit 64 bits: log 13); with bytes waiting and a failing `Read` it
discards none. -/
def Obligations.FlushDiscardsEverything : Prop :=
  (∀ buf, decode ⟨0x4100000000000000, buf⟩ = .ok .flush) ∧
  ∀ s : State,
    (s.rxq = [] ∨ s.readOk = true → ∃ count : Word64, (s.rxq.length < 2 ^ 64 → count.toNat = s.rxq.length) ∧
      exec .flush s = .next (answered 0 { s with
        rxq := [], evq := s.evq ++ [.frameFlushRequired], res := count })) ∧
    (s.rxq ≠ [] → s.readOk = false → exec .flush s = .next (notRead s))

/-- 45_rxpath.md R204, R205: RX_FW takes the first five bytes whatever they are, and keeps the first two in `FWV`; when
the `Read` fails it takes none, however many wait. -/
def Obligations.RxFwTakesFiveBytes : Prop :=
  (∀ buf, decode ⟨0x4200000000000000, buf⟩ = .ok .rxFw) ∧
  ∀ s : State,
    (∀ (major minor x y z : Byte) (rest : List Byte), s.rxq = major :: minor :: x :: y :: z :: rest →
      s.readOk = true → exec .rxFw s =
        .next (answered 0 { s with rxq := rest, fwv := { valid := true, major := major, minor := minor } })) ∧
    (s.readOk = false → exec .rxFw s = .next (notRead s))

/-- 45_rxpath.md R204, 70_reset_and_hazards.md R268: while fewer than five bytes wait and the `Read` has not failed,
RX_FW is held: the step changes nothing but what the outside world moves, and the request is still the one at the port.
That being held is a next state, and that a blocked `Read` may fail, is the model's reading (log 6). -/
def Obligations.RxFwIsHeldWhileBytesAreMissing : Prop :=
  ∀ (s : State) (r : Request) (rest : List Request),
    s.reqs = r :: rest → decode r = .ok .rxFw → s.rxq.length < 5 → s.readOk = true →
    exec .rxFw s = .next s ∧ step s = .next (worldMove s) ∧ ∃ more, (worldMove s).reqs = r :: more

/-- 70_reset_and_hazards.md R253: a block whose transport is closed sees every `Read` and `Write` fail: no operation
moves a byte or a frame and none is held; RX_FW reports the failure whatever waits. -/
def Obligations.ClosedTransportMovesNothing : Prop :=
  ∀ (i : Instr) (s t : State), s.readOk = false → s.writeOk = false → exec i s = .next t →
    t.rxq = s.rxq ∧ t.txq = s.txq ∧ t.reqs = s.reqs.tail ∧ (i = .rxFw → t = notRead s)

/-! ### Rules of the whole machine -/

/-- 10_state.md R26: INIT, SET_STATE and SET_SPEED are the only writers of RaceStatus, INIT and SET_CONFIG of
SystemConfig; and INIT alone sets `CTX.valid`, which nothing clears. -/
def Obligations.ContextIsWrittenByItsOwnersAlone : Prop :=
  ∀ (i : Instr) (s t : State), exec i s = .next t →
    (t.rs ≠ s.rs →
      (∃ a b c d e, i = .init a b c d e) ∨ (∃ a, i = .setState a) ∨ (∃ a, i = .setSpeed a)) ∧
    (t.sc ≠ s.sc → (∃ a b c d e, i = .init a b c d e) ∨ (∃ a b c, i = .setConfig a b c)) ∧
    (t.ctxValid ≠ s.ctxValid → (∃ a b c d e, i = .init a b c d e) ∧ t.ctxValid = true)

/-- 44_builder.md R190, 42_timer.md R155: only the four state-changing timer operations write a timer register; what they
write depends on the timer and `now` alone, and they write nothing else. -/
def Obligations.TimerAndRaceStateAreIndependent : Prop :=
  ∀ (i : Instr) (s t : State), exec i s = .next t →
    (i ∉ [Instr.tStart, .tPause, .tResume, .tStop] → t.timer = s.timer) ∧
    (i ∈ [Instr.tStart, .tPause, .tResume, .tStop] →
      t = answered 0 { s with timer := t.timer } ∧
      ∀ s' t' : State, exec i s' = .next t' → s'.timer = s.timer → s'.now = s.now → t'.timer = t.timer)

/-- 10_state.md R38, 20_memory.md R52: an operation hands the transport at most one frame, and then `TXB` holds that very
frame and `TransmitReady` of it is the operation's one event. -/
def Obligations.WrittenFrameIsTheOneInTxb : Prop :=
  ∀ (i : Instr) (s t : State), exec i s = .next t →
    t.txq = s.txq ∨
    ∃ f : Frame, t.txq = s.txq ++ [f] ∧ t.txb = { valid := true, b := f } ∧ t.evq = s.evq ++ [.transmitReady f]

/-- 60_exceptions.md R230, 45_rxpath.md R206: over every step events are only appended, and `DongleConnected(true)` is
never among them. -/
def Obligations.EventsAreOnlyAppended : Prop :=
  ∀ s t : State, step s = .next t → ∃ es, t.evq = s.evq ++ es ∧ Event.dongleConnected true ∉ es

/-- 10_state.md R35 to R39: each result register has exactly the writers its rule names. -/
def Obligations.ResultRegistersHaveTheirWriters : Prop :=
  ∀ (i : Instr) (s t : State), exec i s = .next t →
    (t.rxt ≠ s.rxt → i = .poll ∨ ∃ b, i = .decTel b) ∧
    (t.fwv ≠ s.fwv → i = .rxFw ∨ ∃ b, i = .decFw b) ∧
    (t.csr ≠ s.csr → i = .unpack ∨ ∃ a, i = .rdCar a) ∧
    (t.res ≠ s.res → i ∈ [Instr.tValue, .tValueCs, .tBytes, .poll, .flush]) ∧
    (t.txb ≠ s.txb →
      i ∈ [Instr.encFwreq, .encFree, .sendStatus, .sendFwreq, .sendFree] ∨ (∃ a b c, i = .encStatus a b c) ∨
      (∃ a b c d e f, i = .encCmd a b c d e f) ∨ (∃ a, i = .setState a) ∨ (∃ a, i = .setSpeed a) ∨
      (∃ a b c, i = .sendCmd a b c))

/-- 45_rxpath.md R206 (the spec's own derivation), 20_memory.md R51: the receive path never writes the context or the
timer and never transmits; and only it takes bytes, from the head of `RXQ`. -/
def Obligations.ReceivePathOnlyReceives : Prop :=
  ∀ (i : Instr) (s t : State), exec i s = .next t →
    (i ∈ [Instr.poll, .flush, .rxFw] →
      t.rs = s.rs ∧ t.sc = s.sc ∧ t.ctxValid = s.ctxValid ∧ t.timer = s.timer ∧ t.txq = s.txq ∧ t.txb = s.txb ∧
      ∃ taken, s.rxq = taken ++ t.rxq) ∧
    (i ∉ [Instr.poll, .flush, .rxFw] → t.rxq = s.rxq)

/-- 30_encoding.md R88: the packed event word of each kind, as a concatenation from bit 127 down to bit 0; every bit not
named is 0. -/
def Obligations.EventWordsArePackedAsSpecified : Prop :=
  (∀ c, eventWord (.dongleConnected c) = 0#8 ++ 0#119 ++ BitVec.ofBool c) ∧
  eventWord .frameFlushRequired = 1#8 ++ 0#120 ∧
  (∀ id laps ts ticks short, eventWord (.newLap id laps ts ticks short) =
    2#8 ++ 0#54 ++ BitVec.ofBool short ++ ticks ++ ts ++ laps ++ id) ∧
  (∀ id ts, eventWord (.pitEnter id ts) = 3#8 ++ 0#87 ++ ts ++ id) ∧
  (∀ id ts, eventWord (.pitLeave id ts) = 4#8 ++ 0#87 ++ ts ++ id) ∧
  (∀ a ids, eventWord (.trackCall a ids) = 5#8 ++ 0#98 ++ ids ++ BitVec.ofBool a) ∧
  (∀ a ids, eventWord (.allCarsOnTrack a ids) = 6#8 ++ 0#98 ++ ids ++ BitVec.ofBool a) ∧
  (∀ f : Frame, eventWord (.transmitReady f) =
    7#8 ++ 0#32 ++ f[0] ++ f[1] ++ f[2] ++ f[3] ++ f[4] ++ f[5] ++ f[6] ++ f[7] ++ f[8] ++ f[9] ++ f[10])

/-! ### Reset and the invariant -/

/-- 10_state.md R45, 70_reset_and_hazards.md R250, R251: reset gives every piece of internal state its value and touches
neither `RXQ`, `TXQ` nor `EVQ`; `State.reset` is such a state. Only the values R45 gives are stated. That it also keeps
the responses, the requests presented and `now` is the model's choice (logs 18 and 23, DESIGN CHOICE). -/
def Obligations.ResetLeavesTheSpecifiedState : Prop :=
  (∀ s : State,
    let t := resetInternal s
    t.timer = { running := false, start := 0, pacc := 0, sacc := 0 } ∧ t.ctxValid = false ∧
    (∀ i : Fin 21, t.cars[i].known = false) ∧ t.rxt.valid = false ∧ t.fwv.valid = false ∧ t.csr.valid = false ∧
    t.txb.valid = false ∧ t.res = 0 ∧ t.err = 0 ∧ t.errseen = 0 ∧
    t.rxq = s.rxq ∧ t.txq = s.txq ∧ t.evq = s.evq ∧ t.rspq = s.rspq ∧ t.reqs = s.reqs ∧ t.now = s.now) ∧
  resetInternal State.reset = State.reset

/-- The invariant holds at reset (10_state.md R23, R45). -/
def Obligations.InvariantHoldsAtReset : Prop := Inv State.reset

/-- Every step keeps the invariant: the time input stays lawful (10_state.md R24; the
model takes no unlawful time, log 2), the timer's accumulators stay
consistent and within `now` (R23, the spec's own derivation), known slots carry their own id (R31) and timestamps stay in
range (40_codec_rx.md R103), `ERR` agrees with `ERRSEEN` (R40), and no frame is written without `TXB` (R38). -/
def Obligations.EveryStepKeepsTheInvariant : Prop :=
  ∀ s t : State, Inv s → step s = .next t → Inv t
end

