-- ==== Sys2Proof/Laws/State.lean ====
section
/-! SUPPORT. One lemma per field per update of the state, each true by `rfl`: what every shared update writes and what it
leaves alone. -/

namespace Sys2Proof.Machine

open Sys2Proof

/-! ### setTimer -/

@[simp] theorem setTimer_timer (t : Timer) (s : State) : (setTimer t s).timer = t := rfl
@[simp] theorem setTimer_ctxValid (t : Timer) (s : State) : (setTimer t s).ctxValid = s.ctxValid := rfl
@[simp] theorem setTimer_rs (t : Timer) (s : State) : (setTimer t s).rs = s.rs := rfl
@[simp] theorem setTimer_sc (t : Timer) (s : State) : (setTimer t s).sc = s.sc := rfl
@[simp] theorem setTimer_cars (t : Timer) (s : State) : (setTimer t s).cars = s.cars := rfl
@[simp] theorem setTimer_rxt (t : Timer) (s : State) : (setTimer t s).rxt = s.rxt := rfl
@[simp] theorem setTimer_fwv (t : Timer) (s : State) : (setTimer t s).fwv = s.fwv := rfl
@[simp] theorem setTimer_csr (t : Timer) (s : State) : (setTimer t s).csr = s.csr := rfl
@[simp] theorem setTimer_txb (t : Timer) (s : State) : (setTimer t s).txb = s.txb := rfl
@[simp] theorem setTimer_res (t : Timer) (s : State) : (setTimer t s).res = s.res := rfl
@[simp] theorem setTimer_err (t : Timer) (s : State) : (setTimer t s).err = s.err := rfl
@[simp] theorem setTimer_errseen (t : Timer) (s : State) : (setTimer t s).errseen = s.errseen := rfl
@[simp] theorem setTimer_rxq (t : Timer) (s : State) : (setTimer t s).rxq = s.rxq := rfl
@[simp] theorem setTimer_txq (t : Timer) (s : State) : (setTimer t s).txq = s.txq := rfl
@[simp] theorem setTimer_evq (t : Timer) (s : State) : (setTimer t s).evq = s.evq := rfl
@[simp] theorem setTimer_rspq (t : Timer) (s : State) : (setTimer t s).rspq = s.rspq := rfl
@[simp] theorem setTimer_reqs (t : Timer) (s : State) : (setTimer t s).reqs = s.reqs := rfl
@[simp] theorem setTimer_now (t : Timer) (s : State) : (setTimer t s).now = s.now := rfl
@[simp] theorem setTimer_readOk (t : Timer) (s : State) : (setTimer t s).readOk = s.readOk := rfl
@[simp] theorem setTimer_writeOk (t : Timer) (s : State) : (setTimer t s).writeOk = s.writeOk := rfl
@[simp] theorem setTimer_world (t : Timer) (s : State) : (setTimer t s).world = s.world := rfl
@[simp] theorem setTimer_tick (t : Timer) (s : State) : (setTimer t s).tick = s.tick := rfl

/-! ### setCtxValid -/

@[simp] theorem setCtxValid_timer (v : Bool) (s : State) : (setCtxValid v s).timer = s.timer := rfl
@[simp] theorem setCtxValid_ctxValid (v : Bool) (s : State) : (setCtxValid v s).ctxValid = v := rfl
@[simp] theorem setCtxValid_rs (v : Bool) (s : State) : (setCtxValid v s).rs = s.rs := rfl
@[simp] theorem setCtxValid_sc (v : Bool) (s : State) : (setCtxValid v s).sc = s.sc := rfl
@[simp] theorem setCtxValid_cars (v : Bool) (s : State) : (setCtxValid v s).cars = s.cars := rfl
@[simp] theorem setCtxValid_rxt (v : Bool) (s : State) : (setCtxValid v s).rxt = s.rxt := rfl
@[simp] theorem setCtxValid_fwv (v : Bool) (s : State) : (setCtxValid v s).fwv = s.fwv := rfl
@[simp] theorem setCtxValid_csr (v : Bool) (s : State) : (setCtxValid v s).csr = s.csr := rfl
@[simp] theorem setCtxValid_txb (v : Bool) (s : State) : (setCtxValid v s).txb = s.txb := rfl
@[simp] theorem setCtxValid_res (v : Bool) (s : State) : (setCtxValid v s).res = s.res := rfl
@[simp] theorem setCtxValid_err (v : Bool) (s : State) : (setCtxValid v s).err = s.err := rfl
@[simp] theorem setCtxValid_errseen (v : Bool) (s : State) : (setCtxValid v s).errseen = s.errseen := rfl
@[simp] theorem setCtxValid_rxq (v : Bool) (s : State) : (setCtxValid v s).rxq = s.rxq := rfl
@[simp] theorem setCtxValid_txq (v : Bool) (s : State) : (setCtxValid v s).txq = s.txq := rfl
@[simp] theorem setCtxValid_evq (v : Bool) (s : State) : (setCtxValid v s).evq = s.evq := rfl
@[simp] theorem setCtxValid_rspq (v : Bool) (s : State) : (setCtxValid v s).rspq = s.rspq := rfl
@[simp] theorem setCtxValid_reqs (v : Bool) (s : State) : (setCtxValid v s).reqs = s.reqs := rfl
@[simp] theorem setCtxValid_now (v : Bool) (s : State) : (setCtxValid v s).now = s.now := rfl
@[simp] theorem setCtxValid_readOk (v : Bool) (s : State) : (setCtxValid v s).readOk = s.readOk := rfl
@[simp] theorem setCtxValid_writeOk (v : Bool) (s : State) : (setCtxValid v s).writeOk = s.writeOk := rfl
@[simp] theorem setCtxValid_world (v : Bool) (s : State) : (setCtxValid v s).world = s.world := rfl
@[simp] theorem setCtxValid_tick (v : Bool) (s : State) : (setCtxValid v s).tick = s.tick := rfl

/-! ### setRs -/

@[simp] theorem setRs_timer (r : RaceStatus) (s : State) : (setRs r s).timer = s.timer := rfl
@[simp] theorem setRs_ctxValid (r : RaceStatus) (s : State) : (setRs r s).ctxValid = s.ctxValid := rfl
@[simp] theorem setRs_rs (r : RaceStatus) (s : State) : (setRs r s).rs = r := rfl
@[simp] theorem setRs_sc (r : RaceStatus) (s : State) : (setRs r s).sc = s.sc := rfl
@[simp] theorem setRs_cars (r : RaceStatus) (s : State) : (setRs r s).cars = s.cars := rfl
@[simp] theorem setRs_rxt (r : RaceStatus) (s : State) : (setRs r s).rxt = s.rxt := rfl
@[simp] theorem setRs_fwv (r : RaceStatus) (s : State) : (setRs r s).fwv = s.fwv := rfl
@[simp] theorem setRs_csr (r : RaceStatus) (s : State) : (setRs r s).csr = s.csr := rfl
@[simp] theorem setRs_txb (r : RaceStatus) (s : State) : (setRs r s).txb = s.txb := rfl
@[simp] theorem setRs_res (r : RaceStatus) (s : State) : (setRs r s).res = s.res := rfl
@[simp] theorem setRs_err (r : RaceStatus) (s : State) : (setRs r s).err = s.err := rfl
@[simp] theorem setRs_errseen (r : RaceStatus) (s : State) : (setRs r s).errseen = s.errseen := rfl
@[simp] theorem setRs_rxq (r : RaceStatus) (s : State) : (setRs r s).rxq = s.rxq := rfl
@[simp] theorem setRs_txq (r : RaceStatus) (s : State) : (setRs r s).txq = s.txq := rfl
@[simp] theorem setRs_evq (r : RaceStatus) (s : State) : (setRs r s).evq = s.evq := rfl
@[simp] theorem setRs_rspq (r : RaceStatus) (s : State) : (setRs r s).rspq = s.rspq := rfl
@[simp] theorem setRs_reqs (r : RaceStatus) (s : State) : (setRs r s).reqs = s.reqs := rfl
@[simp] theorem setRs_now (r : RaceStatus) (s : State) : (setRs r s).now = s.now := rfl
@[simp] theorem setRs_readOk (r : RaceStatus) (s : State) : (setRs r s).readOk = s.readOk := rfl
@[simp] theorem setRs_writeOk (r : RaceStatus) (s : State) : (setRs r s).writeOk = s.writeOk := rfl
@[simp] theorem setRs_world (r : RaceStatus) (s : State) : (setRs r s).world = s.world := rfl
@[simp] theorem setRs_tick (r : RaceStatus) (s : State) : (setRs r s).tick = s.tick := rfl

/-! ### setSc -/

@[simp] theorem setSc_timer (c : SystemConfig) (s : State) : (setSc c s).timer = s.timer := rfl
@[simp] theorem setSc_ctxValid (c : SystemConfig) (s : State) : (setSc c s).ctxValid = s.ctxValid := rfl
@[simp] theorem setSc_rs (c : SystemConfig) (s : State) : (setSc c s).rs = s.rs := rfl
@[simp] theorem setSc_sc (c : SystemConfig) (s : State) : (setSc c s).sc = c := rfl
@[simp] theorem setSc_cars (c : SystemConfig) (s : State) : (setSc c s).cars = s.cars := rfl
@[simp] theorem setSc_rxt (c : SystemConfig) (s : State) : (setSc c s).rxt = s.rxt := rfl
@[simp] theorem setSc_fwv (c : SystemConfig) (s : State) : (setSc c s).fwv = s.fwv := rfl
@[simp] theorem setSc_csr (c : SystemConfig) (s : State) : (setSc c s).csr = s.csr := rfl
@[simp] theorem setSc_txb (c : SystemConfig) (s : State) : (setSc c s).txb = s.txb := rfl
@[simp] theorem setSc_res (c : SystemConfig) (s : State) : (setSc c s).res = s.res := rfl
@[simp] theorem setSc_err (c : SystemConfig) (s : State) : (setSc c s).err = s.err := rfl
@[simp] theorem setSc_errseen (c : SystemConfig) (s : State) : (setSc c s).errseen = s.errseen := rfl
@[simp] theorem setSc_rxq (c : SystemConfig) (s : State) : (setSc c s).rxq = s.rxq := rfl
@[simp] theorem setSc_txq (c : SystemConfig) (s : State) : (setSc c s).txq = s.txq := rfl
@[simp] theorem setSc_evq (c : SystemConfig) (s : State) : (setSc c s).evq = s.evq := rfl
@[simp] theorem setSc_rspq (c : SystemConfig) (s : State) : (setSc c s).rspq = s.rspq := rfl
@[simp] theorem setSc_reqs (c : SystemConfig) (s : State) : (setSc c s).reqs = s.reqs := rfl
@[simp] theorem setSc_now (c : SystemConfig) (s : State) : (setSc c s).now = s.now := rfl
@[simp] theorem setSc_readOk (c : SystemConfig) (s : State) : (setSc c s).readOk = s.readOk := rfl
@[simp] theorem setSc_writeOk (c : SystemConfig) (s : State) : (setSc c s).writeOk = s.writeOk := rfl
@[simp] theorem setSc_world (c : SystemConfig) (s : State) : (setSc c s).world = s.world := rfl
@[simp] theorem setSc_tick (c : SystemConfig) (s : State) : (setSc c s).tick = s.tick := rfl

/-! ### setCar -/

@[simp] theorem setCar_timer (i : Fin 21) (c : CarState) (s : State) : (setCar i c s).timer = s.timer := rfl
@[simp] theorem setCar_ctxValid (i : Fin 21) (c : CarState) (s : State) : (setCar i c s).ctxValid = s.ctxValid := rfl
@[simp] theorem setCar_rs (i : Fin 21) (c : CarState) (s : State) : (setCar i c s).rs = s.rs := rfl
@[simp] theorem setCar_sc (i : Fin 21) (c : CarState) (s : State) : (setCar i c s).sc = s.sc := rfl
@[simp] theorem setCar_cars (i : Fin 21) (c : CarState) (s : State) : (setCar i c s).cars = s.cars.set i { known := true, car := c } := rfl
@[simp] theorem setCar_rxt (i : Fin 21) (c : CarState) (s : State) : (setCar i c s).rxt = s.rxt := rfl
@[simp] theorem setCar_fwv (i : Fin 21) (c : CarState) (s : State) : (setCar i c s).fwv = s.fwv := rfl
@[simp] theorem setCar_csr (i : Fin 21) (c : CarState) (s : State) : (setCar i c s).csr = s.csr := rfl
@[simp] theorem setCar_txb (i : Fin 21) (c : CarState) (s : State) : (setCar i c s).txb = s.txb := rfl
@[simp] theorem setCar_res (i : Fin 21) (c : CarState) (s : State) : (setCar i c s).res = s.res := rfl
@[simp] theorem setCar_err (i : Fin 21) (c : CarState) (s : State) : (setCar i c s).err = s.err := rfl
@[simp] theorem setCar_errseen (i : Fin 21) (c : CarState) (s : State) : (setCar i c s).errseen = s.errseen := rfl
@[simp] theorem setCar_rxq (i : Fin 21) (c : CarState) (s : State) : (setCar i c s).rxq = s.rxq := rfl
@[simp] theorem setCar_txq (i : Fin 21) (c : CarState) (s : State) : (setCar i c s).txq = s.txq := rfl
@[simp] theorem setCar_evq (i : Fin 21) (c : CarState) (s : State) : (setCar i c s).evq = s.evq := rfl
@[simp] theorem setCar_rspq (i : Fin 21) (c : CarState) (s : State) : (setCar i c s).rspq = s.rspq := rfl
@[simp] theorem setCar_reqs (i : Fin 21) (c : CarState) (s : State) : (setCar i c s).reqs = s.reqs := rfl
@[simp] theorem setCar_now (i : Fin 21) (c : CarState) (s : State) : (setCar i c s).now = s.now := rfl
@[simp] theorem setCar_readOk (i : Fin 21) (c : CarState) (s : State) : (setCar i c s).readOk = s.readOk := rfl
@[simp] theorem setCar_writeOk (i : Fin 21) (c : CarState) (s : State) : (setCar i c s).writeOk = s.writeOk := rfl
@[simp] theorem setCar_world (i : Fin 21) (c : CarState) (s : State) : (setCar i c s).world = s.world := rfl
@[simp] theorem setCar_tick (i : Fin 21) (c : CarState) (s : State) : (setCar i c s).tick = s.tick := rfl

/-! ### setRxt -/

@[simp] theorem setRxt_timer (f : RxTel) (s : State) : (setRxt f s).timer = s.timer := rfl
@[simp] theorem setRxt_ctxValid (f : RxTel) (s : State) : (setRxt f s).ctxValid = s.ctxValid := rfl
@[simp] theorem setRxt_rs (f : RxTel) (s : State) : (setRxt f s).rs = s.rs := rfl
@[simp] theorem setRxt_sc (f : RxTel) (s : State) : (setRxt f s).sc = s.sc := rfl
@[simp] theorem setRxt_cars (f : RxTel) (s : State) : (setRxt f s).cars = s.cars := rfl
@[simp] theorem setRxt_rxt (f : RxTel) (s : State) : (setRxt f s).rxt = { valid := true, frame := f } := rfl
@[simp] theorem setRxt_fwv (f : RxTel) (s : State) : (setRxt f s).fwv = s.fwv := rfl
@[simp] theorem setRxt_csr (f : RxTel) (s : State) : (setRxt f s).csr = s.csr := rfl
@[simp] theorem setRxt_txb (f : RxTel) (s : State) : (setRxt f s).txb = s.txb := rfl
@[simp] theorem setRxt_res (f : RxTel) (s : State) : (setRxt f s).res = s.res := rfl
@[simp] theorem setRxt_err (f : RxTel) (s : State) : (setRxt f s).err = s.err := rfl
@[simp] theorem setRxt_errseen (f : RxTel) (s : State) : (setRxt f s).errseen = s.errseen := rfl
@[simp] theorem setRxt_rxq (f : RxTel) (s : State) : (setRxt f s).rxq = s.rxq := rfl
@[simp] theorem setRxt_txq (f : RxTel) (s : State) : (setRxt f s).txq = s.txq := rfl
@[simp] theorem setRxt_evq (f : RxTel) (s : State) : (setRxt f s).evq = s.evq := rfl
@[simp] theorem setRxt_rspq (f : RxTel) (s : State) : (setRxt f s).rspq = s.rspq := rfl
@[simp] theorem setRxt_reqs (f : RxTel) (s : State) : (setRxt f s).reqs = s.reqs := rfl
@[simp] theorem setRxt_now (f : RxTel) (s : State) : (setRxt f s).now = s.now := rfl
@[simp] theorem setRxt_readOk (f : RxTel) (s : State) : (setRxt f s).readOk = s.readOk := rfl
@[simp] theorem setRxt_writeOk (f : RxTel) (s : State) : (setRxt f s).writeOk = s.writeOk := rfl
@[simp] theorem setRxt_world (f : RxTel) (s : State) : (setRxt f s).world = s.world := rfl
@[simp] theorem setRxt_tick (f : RxTel) (s : State) : (setRxt f s).tick = s.tick := rfl

/-! ### setFwv -/

@[simp] theorem setFwv_timer (a b : Byte) (s : State) : (setFwv a b s).timer = s.timer := rfl
@[simp] theorem setFwv_ctxValid (a b : Byte) (s : State) : (setFwv a b s).ctxValid = s.ctxValid := rfl
@[simp] theorem setFwv_rs (a b : Byte) (s : State) : (setFwv a b s).rs = s.rs := rfl
@[simp] theorem setFwv_sc (a b : Byte) (s : State) : (setFwv a b s).sc = s.sc := rfl
@[simp] theorem setFwv_cars (a b : Byte) (s : State) : (setFwv a b s).cars = s.cars := rfl
@[simp] theorem setFwv_rxt (a b : Byte) (s : State) : (setFwv a b s).rxt = s.rxt := rfl
@[simp] theorem setFwv_fwv (a b : Byte) (s : State) : (setFwv a b s).fwv = { valid := true, major := a, minor := b } := rfl
@[simp] theorem setFwv_csr (a b : Byte) (s : State) : (setFwv a b s).csr = s.csr := rfl
@[simp] theorem setFwv_txb (a b : Byte) (s : State) : (setFwv a b s).txb = s.txb := rfl
@[simp] theorem setFwv_res (a b : Byte) (s : State) : (setFwv a b s).res = s.res := rfl
@[simp] theorem setFwv_err (a b : Byte) (s : State) : (setFwv a b s).err = s.err := rfl
@[simp] theorem setFwv_errseen (a b : Byte) (s : State) : (setFwv a b s).errseen = s.errseen := rfl
@[simp] theorem setFwv_rxq (a b : Byte) (s : State) : (setFwv a b s).rxq = s.rxq := rfl
@[simp] theorem setFwv_txq (a b : Byte) (s : State) : (setFwv a b s).txq = s.txq := rfl
@[simp] theorem setFwv_evq (a b : Byte) (s : State) : (setFwv a b s).evq = s.evq := rfl
@[simp] theorem setFwv_rspq (a b : Byte) (s : State) : (setFwv a b s).rspq = s.rspq := rfl
@[simp] theorem setFwv_reqs (a b : Byte) (s : State) : (setFwv a b s).reqs = s.reqs := rfl
@[simp] theorem setFwv_now (a b : Byte) (s : State) : (setFwv a b s).now = s.now := rfl
@[simp] theorem setFwv_readOk (a b : Byte) (s : State) : (setFwv a b s).readOk = s.readOk := rfl
@[simp] theorem setFwv_writeOk (a b : Byte) (s : State) : (setFwv a b s).writeOk = s.writeOk := rfl
@[simp] theorem setFwv_world (a b : Byte) (s : State) : (setFwv a b s).world = s.world := rfl
@[simp] theorem setFwv_tick (a b : Byte) (s : State) : (setFwv a b s).tick = s.tick := rfl

/-! ### setCsr -/

@[simp] theorem setCsr_timer (c : CarState) (s : State) : (setCsr c s).timer = s.timer := rfl
@[simp] theorem setCsr_ctxValid (c : CarState) (s : State) : (setCsr c s).ctxValid = s.ctxValid := rfl
@[simp] theorem setCsr_rs (c : CarState) (s : State) : (setCsr c s).rs = s.rs := rfl
@[simp] theorem setCsr_sc (c : CarState) (s : State) : (setCsr c s).sc = s.sc := rfl
@[simp] theorem setCsr_cars (c : CarState) (s : State) : (setCsr c s).cars = s.cars := rfl
@[simp] theorem setCsr_rxt (c : CarState) (s : State) : (setCsr c s).rxt = s.rxt := rfl
@[simp] theorem setCsr_fwv (c : CarState) (s : State) : (setCsr c s).fwv = s.fwv := rfl
@[simp] theorem setCsr_csr (c : CarState) (s : State) : (setCsr c s).csr = { valid := true, car := c } := rfl
@[simp] theorem setCsr_txb (c : CarState) (s : State) : (setCsr c s).txb = s.txb := rfl
@[simp] theorem setCsr_res (c : CarState) (s : State) : (setCsr c s).res = s.res := rfl
@[simp] theorem setCsr_err (c : CarState) (s : State) : (setCsr c s).err = s.err := rfl
@[simp] theorem setCsr_errseen (c : CarState) (s : State) : (setCsr c s).errseen = s.errseen := rfl
@[simp] theorem setCsr_rxq (c : CarState) (s : State) : (setCsr c s).rxq = s.rxq := rfl
@[simp] theorem setCsr_txq (c : CarState) (s : State) : (setCsr c s).txq = s.txq := rfl
@[simp] theorem setCsr_evq (c : CarState) (s : State) : (setCsr c s).evq = s.evq := rfl
@[simp] theorem setCsr_rspq (c : CarState) (s : State) : (setCsr c s).rspq = s.rspq := rfl
@[simp] theorem setCsr_reqs (c : CarState) (s : State) : (setCsr c s).reqs = s.reqs := rfl
@[simp] theorem setCsr_now (c : CarState) (s : State) : (setCsr c s).now = s.now := rfl
@[simp] theorem setCsr_readOk (c : CarState) (s : State) : (setCsr c s).readOk = s.readOk := rfl
@[simp] theorem setCsr_writeOk (c : CarState) (s : State) : (setCsr c s).writeOk = s.writeOk := rfl
@[simp] theorem setCsr_world (c : CarState) (s : State) : (setCsr c s).world = s.world := rfl
@[simp] theorem setCsr_tick (c : CarState) (s : State) : (setCsr c s).tick = s.tick := rfl

/-! ### setTxb -/

@[simp] theorem setTxb_timer (f : Frame) (s : State) : (setTxb f s).timer = s.timer := rfl
@[simp] theorem setTxb_ctxValid (f : Frame) (s : State) : (setTxb f s).ctxValid = s.ctxValid := rfl
@[simp] theorem setTxb_rs (f : Frame) (s : State) : (setTxb f s).rs = s.rs := rfl
@[simp] theorem setTxb_sc (f : Frame) (s : State) : (setTxb f s).sc = s.sc := rfl
@[simp] theorem setTxb_cars (f : Frame) (s : State) : (setTxb f s).cars = s.cars := rfl
@[simp] theorem setTxb_rxt (f : Frame) (s : State) : (setTxb f s).rxt = s.rxt := rfl
@[simp] theorem setTxb_fwv (f : Frame) (s : State) : (setTxb f s).fwv = s.fwv := rfl
@[simp] theorem setTxb_csr (f : Frame) (s : State) : (setTxb f s).csr = s.csr := rfl
@[simp] theorem setTxb_txb (f : Frame) (s : State) : (setTxb f s).txb = { valid := true, b := f } := rfl
@[simp] theorem setTxb_res (f : Frame) (s : State) : (setTxb f s).res = s.res := rfl
@[simp] theorem setTxb_err (f : Frame) (s : State) : (setTxb f s).err = s.err := rfl
@[simp] theorem setTxb_errseen (f : Frame) (s : State) : (setTxb f s).errseen = s.errseen := rfl
@[simp] theorem setTxb_rxq (f : Frame) (s : State) : (setTxb f s).rxq = s.rxq := rfl
@[simp] theorem setTxb_txq (f : Frame) (s : State) : (setTxb f s).txq = s.txq := rfl
@[simp] theorem setTxb_evq (f : Frame) (s : State) : (setTxb f s).evq = s.evq := rfl
@[simp] theorem setTxb_rspq (f : Frame) (s : State) : (setTxb f s).rspq = s.rspq := rfl
@[simp] theorem setTxb_reqs (f : Frame) (s : State) : (setTxb f s).reqs = s.reqs := rfl
@[simp] theorem setTxb_now (f : Frame) (s : State) : (setTxb f s).now = s.now := rfl
@[simp] theorem setTxb_readOk (f : Frame) (s : State) : (setTxb f s).readOk = s.readOk := rfl
@[simp] theorem setTxb_writeOk (f : Frame) (s : State) : (setTxb f s).writeOk = s.writeOk := rfl
@[simp] theorem setTxb_world (f : Frame) (s : State) : (setTxb f s).world = s.world := rfl
@[simp] theorem setTxb_tick (f : Frame) (s : State) : (setTxb f s).tick = s.tick := rfl

/-! ### setRes -/

@[simp] theorem setRes_timer (v : Word64) (s : State) : (setRes v s).timer = s.timer := rfl
@[simp] theorem setRes_ctxValid (v : Word64) (s : State) : (setRes v s).ctxValid = s.ctxValid := rfl
@[simp] theorem setRes_rs (v : Word64) (s : State) : (setRes v s).rs = s.rs := rfl
@[simp] theorem setRes_sc (v : Word64) (s : State) : (setRes v s).sc = s.sc := rfl
@[simp] theorem setRes_cars (v : Word64) (s : State) : (setRes v s).cars = s.cars := rfl
@[simp] theorem setRes_rxt (v : Word64) (s : State) : (setRes v s).rxt = s.rxt := rfl
@[simp] theorem setRes_fwv (v : Word64) (s : State) : (setRes v s).fwv = s.fwv := rfl
@[simp] theorem setRes_csr (v : Word64) (s : State) : (setRes v s).csr = s.csr := rfl
@[simp] theorem setRes_txb (v : Word64) (s : State) : (setRes v s).txb = s.txb := rfl
@[simp] theorem setRes_res (v : Word64) (s : State) : (setRes v s).res = v := rfl
@[simp] theorem setRes_err (v : Word64) (s : State) : (setRes v s).err = s.err := rfl
@[simp] theorem setRes_errseen (v : Word64) (s : State) : (setRes v s).errseen = s.errseen := rfl
@[simp] theorem setRes_rxq (v : Word64) (s : State) : (setRes v s).rxq = s.rxq := rfl
@[simp] theorem setRes_txq (v : Word64) (s : State) : (setRes v s).txq = s.txq := rfl
@[simp] theorem setRes_evq (v : Word64) (s : State) : (setRes v s).evq = s.evq := rfl
@[simp] theorem setRes_rspq (v : Word64) (s : State) : (setRes v s).rspq = s.rspq := rfl
@[simp] theorem setRes_reqs (v : Word64) (s : State) : (setRes v s).reqs = s.reqs := rfl
@[simp] theorem setRes_now (v : Word64) (s : State) : (setRes v s).now = s.now := rfl
@[simp] theorem setRes_readOk (v : Word64) (s : State) : (setRes v s).readOk = s.readOk := rfl
@[simp] theorem setRes_writeOk (v : Word64) (s : State) : (setRes v s).writeOk = s.writeOk := rfl
@[simp] theorem setRes_world (v : Word64) (s : State) : (setRes v s).world = s.world := rfl
@[simp] theorem setRes_tick (v : Word64) (s : State) : (setRes v s).tick = s.tick := rfl

/-! ### emit -/

@[simp] theorem emit_timer (e : Event) (s : State) : (emit e s).timer = s.timer := rfl
@[simp] theorem emit_ctxValid (e : Event) (s : State) : (emit e s).ctxValid = s.ctxValid := rfl
@[simp] theorem emit_rs (e : Event) (s : State) : (emit e s).rs = s.rs := rfl
@[simp] theorem emit_sc (e : Event) (s : State) : (emit e s).sc = s.sc := rfl
@[simp] theorem emit_cars (e : Event) (s : State) : (emit e s).cars = s.cars := rfl
@[simp] theorem emit_rxt (e : Event) (s : State) : (emit e s).rxt = s.rxt := rfl
@[simp] theorem emit_fwv (e : Event) (s : State) : (emit e s).fwv = s.fwv := rfl
@[simp] theorem emit_csr (e : Event) (s : State) : (emit e s).csr = s.csr := rfl
@[simp] theorem emit_txb (e : Event) (s : State) : (emit e s).txb = s.txb := rfl
@[simp] theorem emit_res (e : Event) (s : State) : (emit e s).res = s.res := rfl
@[simp] theorem emit_err (e : Event) (s : State) : (emit e s).err = s.err := rfl
@[simp] theorem emit_errseen (e : Event) (s : State) : (emit e s).errseen = s.errseen := rfl
@[simp] theorem emit_rxq (e : Event) (s : State) : (emit e s).rxq = s.rxq := rfl
@[simp] theorem emit_txq (e : Event) (s : State) : (emit e s).txq = s.txq := rfl
@[simp] theorem emit_evq (e : Event) (s : State) : (emit e s).evq = s.evq ++ [e] := rfl
@[simp] theorem emit_rspq (e : Event) (s : State) : (emit e s).rspq = s.rspq := rfl
@[simp] theorem emit_reqs (e : Event) (s : State) : (emit e s).reqs = s.reqs := rfl
@[simp] theorem emit_now (e : Event) (s : State) : (emit e s).now = s.now := rfl
@[simp] theorem emit_readOk (e : Event) (s : State) : (emit e s).readOk = s.readOk := rfl
@[simp] theorem emit_writeOk (e : Event) (s : State) : (emit e s).writeOk = s.writeOk := rfl
@[simp] theorem emit_world (e : Event) (s : State) : (emit e s).world = s.world := rfl
@[simp] theorem emit_tick (e : Event) (s : State) : (emit e s).tick = s.tick := rfl

/-! ### emitAll -/

@[simp] theorem emitAll_timer (es : List Event) (s : State) : (emitAll es s).timer = s.timer := rfl
@[simp] theorem emitAll_ctxValid (es : List Event) (s : State) : (emitAll es s).ctxValid = s.ctxValid := rfl
@[simp] theorem emitAll_rs (es : List Event) (s : State) : (emitAll es s).rs = s.rs := rfl
@[simp] theorem emitAll_sc (es : List Event) (s : State) : (emitAll es s).sc = s.sc := rfl
@[simp] theorem emitAll_cars (es : List Event) (s : State) : (emitAll es s).cars = s.cars := rfl
@[simp] theorem emitAll_rxt (es : List Event) (s : State) : (emitAll es s).rxt = s.rxt := rfl
@[simp] theorem emitAll_fwv (es : List Event) (s : State) : (emitAll es s).fwv = s.fwv := rfl
@[simp] theorem emitAll_csr (es : List Event) (s : State) : (emitAll es s).csr = s.csr := rfl
@[simp] theorem emitAll_txb (es : List Event) (s : State) : (emitAll es s).txb = s.txb := rfl
@[simp] theorem emitAll_res (es : List Event) (s : State) : (emitAll es s).res = s.res := rfl
@[simp] theorem emitAll_err (es : List Event) (s : State) : (emitAll es s).err = s.err := rfl
@[simp] theorem emitAll_errseen (es : List Event) (s : State) : (emitAll es s).errseen = s.errseen := rfl
@[simp] theorem emitAll_rxq (es : List Event) (s : State) : (emitAll es s).rxq = s.rxq := rfl
@[simp] theorem emitAll_txq (es : List Event) (s : State) : (emitAll es s).txq = s.txq := rfl
@[simp] theorem emitAll_evq (es : List Event) (s : State) : (emitAll es s).evq = s.evq ++ es := rfl
@[simp] theorem emitAll_rspq (es : List Event) (s : State) : (emitAll es s).rspq = s.rspq := rfl
@[simp] theorem emitAll_reqs (es : List Event) (s : State) : (emitAll es s).reqs = s.reqs := rfl
@[simp] theorem emitAll_now (es : List Event) (s : State) : (emitAll es s).now = s.now := rfl
@[simp] theorem emitAll_readOk (es : List Event) (s : State) : (emitAll es s).readOk = s.readOk := rfl
@[simp] theorem emitAll_writeOk (es : List Event) (s : State) : (emitAll es s).writeOk = s.writeOk := rfl
@[simp] theorem emitAll_world (es : List Event) (s : State) : (emitAll es s).world = s.world := rfl
@[simp] theorem emitAll_tick (es : List Event) (s : State) : (emitAll es s).tick = s.tick := rfl

/-! ### respond -/

@[simp] theorem respond_timer (k : Byte) (s : State) : (respond k s).timer = s.timer := rfl
@[simp] theorem respond_ctxValid (k : Byte) (s : State) : (respond k s).ctxValid = s.ctxValid := rfl
@[simp] theorem respond_rs (k : Byte) (s : State) : (respond k s).rs = s.rs := rfl
@[simp] theorem respond_sc (k : Byte) (s : State) : (respond k s).sc = s.sc := rfl
@[simp] theorem respond_cars (k : Byte) (s : State) : (respond k s).cars = s.cars := rfl
@[simp] theorem respond_rxt (k : Byte) (s : State) : (respond k s).rxt = s.rxt := rfl
@[simp] theorem respond_fwv (k : Byte) (s : State) : (respond k s).fwv = s.fwv := rfl
@[simp] theorem respond_csr (k : Byte) (s : State) : (respond k s).csr = s.csr := rfl
@[simp] theorem respond_txb (k : Byte) (s : State) : (respond k s).txb = s.txb := rfl
@[simp] theorem respond_res (k : Byte) (s : State) : (respond k s).res = s.res := rfl
@[simp] theorem respond_err (k : Byte) (s : State) : (respond k s).err = s.err := rfl
@[simp] theorem respond_errseen (k : Byte) (s : State) : (respond k s).errseen = s.errseen := rfl
@[simp] theorem respond_rxq (k : Byte) (s : State) : (respond k s).rxq = s.rxq := rfl
@[simp] theorem respond_txq (k : Byte) (s : State) : (respond k s).txq = s.txq := rfl
@[simp] theorem respond_evq (k : Byte) (s : State) : (respond k s).evq = s.evq := rfl
@[simp] theorem respond_rspq (k : Byte) (s : State) : (respond k s).rspq = s.rspq ++ [k] := rfl
@[simp] theorem respond_reqs (k : Byte) (s : State) : (respond k s).reqs = s.reqs.tail := rfl
@[simp] theorem respond_now (k : Byte) (s : State) : (respond k s).now = s.now := rfl
@[simp] theorem respond_readOk (k : Byte) (s : State) : (respond k s).readOk = s.readOk := rfl
@[simp] theorem respond_writeOk (k : Byte) (s : State) : (respond k s).writeOk = s.writeOk := rfl
@[simp] theorem respond_world (k : Byte) (s : State) : (respond k s).world = s.world := rfl
@[simp] theorem respond_tick (k : Byte) (s : State) : (respond k s).tick = s.tick := rfl

/-! ### complete -/

@[simp] theorem complete_timer (s : State) : (complete s).timer = s.timer := rfl
@[simp] theorem complete_ctxValid (s : State) : (complete s).ctxValid = s.ctxValid := rfl
@[simp] theorem complete_rs (s : State) : (complete s).rs = s.rs := rfl
@[simp] theorem complete_sc (s : State) : (complete s).sc = s.sc := rfl
@[simp] theorem complete_cars (s : State) : (complete s).cars = s.cars := rfl
@[simp] theorem complete_rxt (s : State) : (complete s).rxt = s.rxt := rfl
@[simp] theorem complete_fwv (s : State) : (complete s).fwv = s.fwv := rfl
@[simp] theorem complete_csr (s : State) : (complete s).csr = s.csr := rfl
@[simp] theorem complete_txb (s : State) : (complete s).txb = s.txb := rfl
@[simp] theorem complete_res (s : State) : (complete s).res = s.res := rfl
@[simp] theorem complete_err (s : State) : (complete s).err = s.err := rfl
@[simp] theorem complete_errseen (s : State) : (complete s).errseen = s.errseen := rfl
@[simp] theorem complete_rxq (s : State) : (complete s).rxq = s.rxq := rfl
@[simp] theorem complete_txq (s : State) : (complete s).txq = s.txq := rfl
@[simp] theorem complete_evq (s : State) : (complete s).evq = s.evq := rfl
@[simp] theorem complete_rspq (s : State) : (complete s).rspq = s.rspq ++ [0] := rfl
@[simp] theorem complete_reqs (s : State) : (complete s).reqs = s.reqs.tail := rfl
@[simp] theorem complete_now (s : State) : (complete s).now = s.now := rfl
@[simp] theorem complete_readOk (s : State) : (complete s).readOk = s.readOk := rfl
@[simp] theorem complete_writeOk (s : State) : (complete s).writeOk = s.writeOk := rfl
@[simp] theorem complete_world (s : State) : (complete s).world = s.world := rfl
@[simp] theorem complete_tick (s : State) : (complete s).tick = s.tick := rfl

/-! ### write -/

@[simp] theorem write_timer (f : Frame) (s : State) : (write f s).timer = s.timer := rfl
@[simp] theorem write_ctxValid (f : Frame) (s : State) : (write f s).ctxValid = s.ctxValid := rfl
@[simp] theorem write_rs (f : Frame) (s : State) : (write f s).rs = s.rs := rfl
@[simp] theorem write_sc (f : Frame) (s : State) : (write f s).sc = s.sc := rfl
@[simp] theorem write_cars (f : Frame) (s : State) : (write f s).cars = s.cars := rfl
@[simp] theorem write_rxt (f : Frame) (s : State) : (write f s).rxt = s.rxt := rfl
@[simp] theorem write_fwv (f : Frame) (s : State) : (write f s).fwv = s.fwv := rfl
@[simp] theorem write_csr (f : Frame) (s : State) : (write f s).csr = s.csr := rfl
@[simp] theorem write_txb (f : Frame) (s : State) : (write f s).txb = s.txb := rfl
@[simp] theorem write_res (f : Frame) (s : State) : (write f s).res = s.res := rfl
@[simp] theorem write_err (f : Frame) (s : State) : (write f s).err = s.err := rfl
@[simp] theorem write_errseen (f : Frame) (s : State) : (write f s).errseen = s.errseen := rfl
@[simp] theorem write_rxq (f : Frame) (s : State) : (write f s).rxq = s.rxq := rfl
@[simp] theorem write_txq (f : Frame) (s : State) : (write f s).txq = s.txq ++ [f] := rfl
@[simp] theorem write_evq (f : Frame) (s : State) : (write f s).evq = s.evq := rfl
@[simp] theorem write_rspq (f : Frame) (s : State) : (write f s).rspq = s.rspq := rfl
@[simp] theorem write_reqs (f : Frame) (s : State) : (write f s).reqs = s.reqs := rfl
@[simp] theorem write_now (f : Frame) (s : State) : (write f s).now = s.now := rfl
@[simp] theorem write_readOk (f : Frame) (s : State) : (write f s).readOk = s.readOk := rfl
@[simp] theorem write_writeOk (f : Frame) (s : State) : (write f s).writeOk = s.writeOk := rfl
@[simp] theorem write_world (f : Frame) (s : State) : (write f s).world = s.world := rfl
@[simp] theorem write_tick (f : Frame) (s : State) : (write f s).tick = s.tick := rfl

/-! ### raise -/

@[simp] theorem raise_timer (f : FaultCode) (s : State) : (raise f s).timer = s.timer := rfl
@[simp] theorem raise_ctxValid (f : FaultCode) (s : State) : (raise f s).ctxValid = s.ctxValid := rfl
@[simp] theorem raise_rs (f : FaultCode) (s : State) : (raise f s).rs = s.rs := rfl
@[simp] theorem raise_sc (f : FaultCode) (s : State) : (raise f s).sc = s.sc := rfl
@[simp] theorem raise_cars (f : FaultCode) (s : State) : (raise f s).cars = s.cars := rfl
@[simp] theorem raise_rxt (f : FaultCode) (s : State) : (raise f s).rxt = s.rxt := rfl
@[simp] theorem raise_fwv (f : FaultCode) (s : State) : (raise f s).fwv = s.fwv := rfl
@[simp] theorem raise_csr (f : FaultCode) (s : State) : (raise f s).csr = s.csr := rfl
@[simp] theorem raise_txb (f : FaultCode) (s : State) : (raise f s).txb = s.txb := rfl
@[simp] theorem raise_res (f : FaultCode) (s : State) : (raise f s).res = s.res := rfl
@[simp] theorem raise_err (f : FaultCode) (s : State) : (raise f s).err = codeOf f := rfl
@[simp] theorem raise_errseen (f : FaultCode) (s : State) : (raise f s).errseen = s.errseen ||| (1#16 <<< (codeOf f).toNat) := rfl
@[simp] theorem raise_rxq (f : FaultCode) (s : State) : (raise f s).rxq = s.rxq := rfl
@[simp] theorem raise_txq (f : FaultCode) (s : State) : (raise f s).txq = s.txq := rfl
@[simp] theorem raise_evq (f : FaultCode) (s : State) : (raise f s).evq = s.evq := rfl
@[simp] theorem raise_rspq (f : FaultCode) (s : State) : (raise f s).rspq = s.rspq ++ [codeOf f] := rfl
@[simp] theorem raise_reqs (f : FaultCode) (s : State) : (raise f s).reqs = s.reqs.tail := rfl
@[simp] theorem raise_now (f : FaultCode) (s : State) : (raise f s).now = s.now := rfl
@[simp] theorem raise_readOk (f : FaultCode) (s : State) : (raise f s).readOk = s.readOk := rfl
@[simp] theorem raise_writeOk (f : FaultCode) (s : State) : (raise f s).writeOk = s.writeOk := rfl
@[simp] theorem raise_world (f : FaultCode) (s : State) : (raise f s).world = s.world := rfl
@[simp] theorem raise_tick (f : FaultCode) (s : State) : (raise f s).tick = s.tick := rfl

/-! ### transportFault -/

@[simp] theorem transportFault_timer (s : State) : (transportFault s).timer = s.timer := rfl
@[simp] theorem transportFault_ctxValid (s : State) : (transportFault s).ctxValid = s.ctxValid := rfl
@[simp] theorem transportFault_rs (s : State) : (transportFault s).rs = s.rs := rfl
@[simp] theorem transportFault_sc (s : State) : (transportFault s).sc = s.sc := rfl
@[simp] theorem transportFault_cars (s : State) : (transportFault s).cars = s.cars := rfl
@[simp] theorem transportFault_rxt (s : State) : (transportFault s).rxt = s.rxt := rfl
@[simp] theorem transportFault_fwv (s : State) : (transportFault s).fwv = s.fwv := rfl
@[simp] theorem transportFault_csr (s : State) : (transportFault s).csr = s.csr := rfl
@[simp] theorem transportFault_txb (s : State) : (transportFault s).txb = s.txb := rfl
@[simp] theorem transportFault_res (s : State) : (transportFault s).res = s.res := rfl
@[simp] theorem transportFault_err (s : State) : (transportFault s).err = 7 := rfl
@[simp] theorem transportFault_errseen (s : State) : (transportFault s).errseen = s.errseen ||| (1#16 <<< 7) := rfl
@[simp] theorem transportFault_rxq (s : State) : (transportFault s).rxq = s.rxq := rfl
@[simp] theorem transportFault_txq (s : State) : (transportFault s).txq = s.txq := rfl
@[simp] theorem transportFault_evq (s : State) : (transportFault s).evq = s.evq ++ [.dongleConnected false] := rfl
@[simp] theorem transportFault_rspq (s : State) : (transportFault s).rspq = s.rspq ++ [7] := rfl
@[simp] theorem transportFault_reqs (s : State) : (transportFault s).reqs = s.reqs.tail := rfl
@[simp] theorem transportFault_now (s : State) : (transportFault s).now = s.now := rfl
@[simp] theorem transportFault_readOk (s : State) : (transportFault s).readOk = s.readOk := rfl
@[simp] theorem transportFault_writeOk (s : State) : (transportFault s).writeOk = s.writeOk := rfl
@[simp] theorem transportFault_world (s : State) : (transportFault s).world = s.world := rfl
@[simp] theorem transportFault_tick (s : State) : (transportFault s).tick = s.tick := rfl

/-! ### worldMove: what the outside world leaves alone -/

@[simp] theorem worldMove_timer (s : State) : (worldMove s).timer = s.timer := rfl
@[simp] theorem worldMove_ctxValid (s : State) : (worldMove s).ctxValid = s.ctxValid := rfl
@[simp] theorem worldMove_rs (s : State) : (worldMove s).rs = s.rs := rfl
@[simp] theorem worldMove_sc (s : State) : (worldMove s).sc = s.sc := rfl
@[simp] theorem worldMove_cars (s : State) : (worldMove s).cars = s.cars := rfl
@[simp] theorem worldMove_rxt (s : State) : (worldMove s).rxt = s.rxt := rfl
@[simp] theorem worldMove_fwv (s : State) : (worldMove s).fwv = s.fwv := rfl
@[simp] theorem worldMove_csr (s : State) : (worldMove s).csr = s.csr := rfl
@[simp] theorem worldMove_txb (s : State) : (worldMove s).txb = s.txb := rfl
@[simp] theorem worldMove_res (s : State) : (worldMove s).res = s.res := rfl
@[simp] theorem worldMove_err (s : State) : (worldMove s).err = s.err := rfl
@[simp] theorem worldMove_errseen (s : State) : (worldMove s).errseen = s.errseen := rfl
@[simp] theorem worldMove_txq (s : State) : (worldMove s).txq = s.txq := rfl
@[simp] theorem worldMove_evq (s : State) : (worldMove s).evq = s.evq := rfl
@[simp] theorem worldMove_rspq (s : State) : (worldMove s).rspq = s.rspq := rfl

end Sys2Proof.Machine
end

