-- ==== Sys2Proof/Laws/Ops.lean ====
section
/-! SUPPORT. What each shared operation can do, said once: the transport primitives, transmitting, flushing, UPDATE, the
selectors and field assembly, the timer's reading, the id masks, the outside world's move and the step itself. -/

namespace Sys2Proof.Machine

open Sys2Proof

/-! ### Response and transport -/

theorem complete_eq_answered (s : State) : complete s = answered 0 s := rfl

theorem read_of_short {n : Nat} {s : State} (h : s.rxq.length < n) (ok : s.readOk = true) : read n s = .blocked := by
  simp [read, avail, h, ok]

theorem read_of_ok {n : Nat} {s : State} (h : n ≤ s.rxq.length) (ok : s.readOk = true) :
    read n s = .got (s.rxq.take n) { s with rxq := s.rxq.drop n } := by
  simp [read, avail, ok, Nat.not_lt.mpr h]

theorem read_of_fail {n : Nat} {s : State} (bad : s.readOk = false) : read n s = .failed := by
  simp [read, bad]

/-- Everything a `Read` can come to. -/
theorem read_cases (n : Nat) (s : State) :
    (s.readOk = false ∧ read n s = .failed) ∨
    (s.rxq.length < n ∧ s.readOk = true ∧ read n s = .blocked) ∨
    (n ≤ s.rxq.length ∧ s.readOk = true ∧ read n s = .got (s.rxq.take n) { s with rxq := s.rxq.drop n }) := by
  rcases Bool.eq_false_or_eq_true s.readOk with ok | bad
  · rcases Nat.lt_or_ge s.rxq.length n with h | h
    · exact .inr (.inl ⟨h, ok, read_of_short h ok⟩)
    · exact .inr (.inr ⟨h, ok, read_of_ok h ok⟩)
  · exact .inl ⟨bad, read_of_fail bad⟩

theorem transportFault_eq_notRead (s : State) : transportFault s = notRead s := rfl

theorem transmit_of_ok {f : Frame} {s : State} (ok : s.writeOk = true) : transmit f s = sent f s := by
  simp only [transmit, emit_writeOk, setTxb_writeOk, ok, if_true]
  rfl

theorem transmit_of_fail {f : Frame} {s : State} (bad : s.writeOk = false) : transmit f s = notSent f s := by
  simp [transmit, bad, transportFault, notSent, emit, setTxb]

/-- Everything TRANSMIT can come to. -/
theorem transmit_cases (f : Frame) (s : State) :
    (s.writeOk = true ∧ transmit f s = sent f s) ∨ (s.writeOk = false ∧ transmit f s = notSent f s) := by
  rcases Bool.eq_false_or_eq_true s.writeOk with h | h
  · exact .inl ⟨h, transmit_of_ok h⟩
  · exact .inr ⟨h, transmit_of_fail h⟩

/-- Everything a flush of the waiting bytes can come to. -/
theorem flushBytes_avail (v : Word64) (s : State) :
    (s.readOk = true ∧ flushBytes (avail s) v s =
      answered 0 { s with rxq := [], evq := s.evq ++ [.frameFlushRequired], res := v }) ∨
    (s.readOk = false ∧ flushBytes (avail s) v s = notRead s) := by
  rcases Bool.eq_false_or_eq_true s.readOk with ok | ok
  · refine .inl ⟨ok, ?_⟩
    rw [flushBytes, read_of_ok (n := avail s) (Nat.le_refl _) ok]
    simp only [avail, List.drop_length]
    rfl
  · refine .inr ⟨ok, ?_⟩
    rw [flushBytes, read_of_fail ok]
    rfl

/-! ### Decoders -/

theorem decodeTelemetry_none {l : List Byte} (h : l.length ≠ 13) : decodeTelemetry l = none := by
  unfold decodeTelemetry
  split
  · simp at h
  · rfl

theorem decodeTelemetry_isSome {l : List Byte} (h : l.length = 13) : ∃ f, decodeTelemetry l = some f := by
  match l, h with
  | [_, _, _, _, _, _, _, _, _, _, _, _, _], _ => exact ⟨_, rfl⟩

theorem decodeFirmware_none {l : List Byte} (h : l.length ≠ 5) : decodeFirmware l = none := by
  unfold decodeFirmware
  split
  · simp at h
  · rfl

theorem decodeFirmware_isSome {l : List Byte} (h : l.length = 5) : ∃ v, decodeFirmware l = some v := by
  match l, h with
  | [_, _, _, _, _], _ => exact ⟨_, rfl⟩

/-! ### Operands -/

theorem slotOf_some {id : Byte} (h : id.toNat < 21) : slotOf id = some ⟨id.toNat, h⟩ := by simp [slotOf, h]

theorem slotOf_none {id : Byte} (h : 20 < id.toNat) : slotOf id = none := by
  simp [slotOf, Nat.not_lt.mpr h]

theorem slotOf_eq_some {id : Byte} {i : Fin 21} (h : slotOf id = some i) : id.toNat = i.val := by
  unfold slotOf at h
  split at h
  · cases h
    rfl
  · cases h

theorem word16_toNat (hi lo : Byte) : (word16 hi lo).toNat = hi.toNat * 256 + lo.toNat := by
  have := hi.isLt
  have := lo.isLt
  simp only [word16, BitVec.toNat_append]
  rw [Nat.shiftLeft_eq, Nat.mul_comm, ← Nat.two_pow_add_eq_or_of_lt lo.isLt]

theorem timestamp_toInt (h m l d : Byte) :
    (timestamp h m l d).toInt = (h.toNat * 65536 + m.toNat * 256 + l.toNat : Nat) - (d.toNat : Int) := by
  have := h.isLt
  have := m.isLt
  have := l.isLt
  have := d.isLt
  rw [timestamp, BitVec.toInt_ofInt, Int.bmod_eq_of_le] <;> omega

/-! ### The timer's reading -/

theorem timerCs_toNat (t : Timer) (now : Word64) :
    (timerCs t now).toNat = (timerValue t now).toNat / 10000000 := by
  have := (timerValue t now).isLt
  rw [timerCs, Config.nsPerCs, BitVec.toNat_ofNat, Nat.mod_eq_of_lt]
  omega

theorem timerCs24_toNat (t : Timer) (now : Word64) :
    (timerCs24 t now).toNat = (timerValue t now).toNat / 10000000 % 16777216 := by
  rw [timerCs24, BitVec.toNat_setWidth, timerCs_toNat]

/-- The three timer bytes spell the centisecond count modulo 2^24, most significant first. -/
theorem csBytes_toNat (t : Timer) (now : Word64) :
    (csBytes t now).tb0.toNat * 65536 + (csBytes t now).tb1.toNat * 256 + (csBytes t now).tb2.toNat =
      (timerCs24 t now).toNat := by
  have := (timerCs24 t now).isLt
  simp only [csBytes, BitVec.extractLsb'_toNat, Nat.shiftRight_eq_div_pow]
  omega

/-- Under the timer's invariant the reading is exact: no subtraction is negative and no sum wraps (42_timer.md R141). -/
theorem timerValue_toNat {t : Timer} {now : Word64} (h : TimerOk t now) :
    (timerValue t now).toNat =
      if t.running then now.toNat - t.start.toNat + t.pacc.toNat else t.sacc.toNat := by
  obtain ⟨-, hrun, -, -⟩ := h
  have := now.isLt
  unfold timerValue
  split
  next r =>
    obtain ⟨h1, h2⟩ := hrun r
    rw [BitVec.toNat_add, BitVec.toNat_sub_of_le (BitVec.le_def.mpr h1), Nat.mod_eq_of_lt]
    omega
  next => rfl

/-! ### The aggregate id sets -/

theorem idMask_getLsbD (p : Slot → Bool) (cars : Vector Slot 21) (i : Fin 21) :
    (idMask p cars).getLsbD i.val = p cars[i] := by
  have h := i.isLt
  simp only [idMask, BitVec.getLsbD_setWidth, BitVec.getLsbD_ofBoolListLE, h, decide_true, Bool.true_and]
  simp [h]

/-! ### The request word -/

theorem byteAt_packWord (op p0 p1 p2 p3 p4 p5 : Byte) :
    byteAt (packWord op p0 p1 p2 p3 p4 p5) 56 = op ∧ byteAt (packWord op p0 p1 p2 p3 p4 p5) 48 = p0 ∧
    byteAt (packWord op p0 p1 p2 p3 p4 p5) 40 = p1 ∧ byteAt (packWord op p0 p1 p2 p3 p4 p5) 32 = p2 ∧
    byteAt (packWord op p0 p1 p2 p3 p4 p5) 24 = p3 ∧ byteAt (packWord op p0 p1 p2 p3 p4 p5) 16 = p4 ∧
    byteAt (packWord op p0 p1 p2 p3 p4 p5) 8 = p5 ∧ byteAt (packWord op p0 p1 p2 p3 p4 p5) 0 = 0 := by
  refine ⟨?_, ?_, ?_, ?_, ?_, ?_, ?_, ?_⟩ <;>
  · apply BitVec.eq_of_getLsbD_eq
    intro i hi
    simp only [byteAt, packWord, BitVec.getLsbD_extractLsb', BitVec.getLsbD_append]
    split_ifs <;> first
      | omega
      | (simp only [hi, decide_true, Bool.true_and]; congr 1; omega)

/-! ### The outside world and the step -/

theorem nextNow_ge (now offered : Word64) : now.toNat ≤ (nextNow now offered).toNat := by
  unfold nextNow
  split <;> omega

theorem nextNow_lt {now : Word64} (h : now.toNat < 2 ^ 63) (offered : Word64) :
    (nextNow now offered).toNat < 2 ^ 63 := by
  unfold nextNow
  split <;> omega

theorem worldMove_now_ge (s : State) : s.now.toNat ≤ (worldMove s).now.toNat := nextNow_ge _ _

theorem worldMove_now_lt {s : State} (h : ClockOk s) : ClockOk (worldMove s) := nextNow_lt h _

/-- Everything a step can do. -/
theorem step_cases {s t : State} (h : step s = .next t) :
    (s.reqs = [] ∧ t = worldMove s) ∨
    (∃ r rest e, s.reqs = r :: rest ∧ decode r = .error e ∧ t = worldMove (raise .illegalOp s)) ∨
    (∃ r rest i u, s.reqs = r :: rest ∧ decode r = .ok i ∧ exec i s = .next u ∧ t = worldMove u) := by
  unfold step at h
  split at h
  next hr => exact .inl ⟨hr, by simpa using h.symm⟩
  next r rest hr =>
    split at h
    next e hd => exact .inr (.inl ⟨r, rest, e, hr, hd, by simpa using h.symm⟩)
    next i hd =>
      split at h
      next u hx => exact .inr (.inr ⟨r, rest, i, u, hr, hd, hx, by simpa using h.symm⟩)
      next => cases h
      next => cases h

end Sys2Proof.Machine
end

