-- ==== Sys2Proof/Laws/Encoding.lean ====
section
/-! SUPPORT. The packed request word under each format's mask, and what a packed request decodes to when the operation
map has its row (30_encoding.md R70 to R72). -/

namespace Sys2Proof

theorem packWord_z (op : Byte) : packWord op 0 0 0 0 0 0 &&& fmtMask .z = op.setWidth 64 <<< 56 := by
  revert op
  decide

theorem packWord_zb (op : Byte) : packWord op 0 0 0 0 0 0 &&& fmtMask .zb = op.setWidth 64 <<< 56 := by
  revert op
  decide

theorem packWord_a (op p0 : Byte) : packWord op p0 0 0 0 0 0 &&& fmtMask .a = op.setWidth 64 <<< 56 := by
  apply BitVec.eq_of_getLsbD_eq
  intro k hk
  simp only [packWord, fmtMask, BitVec.getLsbD_append, BitVec.getLsbD_and, BitVec.getLsbD_shiftLeft,
    BitVec.getLsbD_setWidth]
  interval_cases k <;> simp

theorem packWord_b (op p0 p1 p2 : Byte) : packWord op p0 p1 p2 0 0 0 &&& fmtMask .b = op.setWidth 64 <<< 56 := by
  apply BitVec.eq_of_getLsbD_eq
  intro k hk
  simp only [packWord, fmtMask, BitVec.getLsbD_append, BitVec.getLsbD_and, BitVec.getLsbD_shiftLeft,
    BitVec.getLsbD_setWidth]
  interval_cases k <;> simp

theorem packWord_e (op p0 p1 p2 p3 p4 : Byte) :
    packWord op p0 p1 p2 p3 p4 0 &&& fmtMask .e = op.setWidth 64 <<< 56 := by
  apply BitVec.eq_of_getLsbD_eq
  intro k hk
  simp only [packWord, fmtMask, BitVec.getLsbD_append, BitVec.getLsbD_and, BitVec.getLsbD_shiftLeft,
    BitVec.getLsbD_setWidth]
  interval_cases k <;> simp

theorem packWord_c (op p0 p1 p2 p3 p4 p5 : Byte) :
    packWord op p0 p1 p2 p3 p4 p5 &&& fmtMask .c = op.setWidth 64 <<< 56 := by
  apply BitVec.eq_of_getLsbD_eq
  intro k hk
  simp only [packWord, fmtMask, BitVec.getLsbD_append, BitVec.getLsbD_and, BitVec.getLsbD_shiftLeft,
    BitVec.getLsbD_setWidth]
  interval_cases k <;> simp

/-- A packed request whose `op` has a row, and whose reserved bytes are zero, decodes to the row's operation. -/
theorem decode_packWord {op p0 p1 p2 p3 p4 p5 : Byte} {buf : List Byte} {f : Fmt} {i : Instr}
    (row : opMap op p0 p1 p2 p3 p4 p5 buf = some (f, i))
    (reserved : packWord op p0 p1 p2 p3 p4 p5 &&& fmtMask f = op.setWidth 64 <<< 56) :
    decode ⟨packWord op p0 p1 p2 p3 p4 p5, buf⟩ = .ok i := by
  simp only [decode, Machine.byteAt_packWord, row, reserved, if_true]

end Sys2Proof
end

