-- ==== Sys2Proof/Laws/Exec.lean ====
section
/-! SUPPORT. What each operation can do, said once: `ExecEffect i s t` lists the states `exec i s` can answer, in terms of
the shared operations, and `exec_effect` proves it; a rule about every operation is then a case split over it. -/

namespace Sys2Proof.Machine

open Sys2Proof

/-- A fault taken before any effect of the operation. -/
def PreciseFault (s t : State) : Prop := ∃ f, f ≠ .transport ∧ t = raise f s

/-- A frame transmitted from `u`, successfully or not. -/
def Transmitted (u t : State) : Prop :=
  ∃ f, (u.writeOk = true ∧ t = sent f u) ∨ (u.writeOk = false ∧ t = notSent f u)

/-- What UPDATE can do: a precise fault, or the replacement of the slot of the frame's id. -/
def UpdateEffect (s t : State) : Prop :=
  PreciseFault s t ∨
  ∃ i : Fin 21, s.rxt.valid = true ∧ s.rxt.frame.id.toNat = i.val ∧
    t = complete (updateSlot Config.params.suppressFirstFrameEvents i (unpackFrame s.rxt.frame) s)

/-- The states an operation can answer. -/
def ExecEffect : Instr → State → State → Prop
  | .decTel buf, s, t => PreciseFault s t ∨ ∃ f, decodeTelemetry buf = some f ∧ t = complete (setRxt f s)
  | .decFw _, s, t => PreciseFault s t ∨ ∃ a b, t = complete (setFwv a b s)
  | .unpack, s, t => PreciseFault s t ∨ (s.rxt.valid = true ∧ t = complete (setCsr (unpackFrame s.rxt.frame) s))
  | .encStatus _ _ _, s, t => PreciseFault s t ∨ ∃ f, t = complete (setTxb f s)
  | .encCmd _ _ _ _ _ _, s, t => PreciseFault s t ∨ ∃ f, t = complete (setTxb f s)
  | .encFwreq, s, t => ∃ f, t = complete (setTxb f s)
  | .encFree, s, t => ∃ f, t = complete (setTxb f s)
  | .tStart, s, t => t = complete (setTimer (timerStart s.timer s.now) s)
  | .tPause, s, t => t = complete (setTimer (timerPause s.timer s.now) s)
  | .tResume, s, t => t = complete (setTimer (timerResume s.timer s.now) s)
  | .tStop, s, t => t = complete (setTimer (timerStop s.timer s.now) s)
  | .tValue, s, t => ∃ v, t = complete (setRes v s)
  | .tValueCs, s, t => ∃ v, t = complete (setRes v s)
  | .tBytes, s, t => ∃ v, t = complete (setRes v s)
  | .update, s, t => UpdateEffect s t
  | .rdCar _, s, t => PreciseFault s t ∨ ∃ i : Fin 21, s.cars[i].known = true ∧ t = complete (setCsr s.cars[i].car s)
  | .setState _, s, t => PreciseFault s t ∨ ∃ r, Transmitted (setRs r s) t
  | .setSpeed _, s, t => PreciseFault s t ∨ ∃ r, Transmitted (setRs r s) t
  | .setConfig _ _ _, s, t => PreciseFault s t ∨ ∃ c, t = complete (setSc c s)
  | .sendStatus, s, t => PreciseFault s t ∨ Transmitted s t
  | .sendCmd _ _ _, s, t => PreciseFault s t ∨ Transmitted s t
  | .sendFwreq, s, t => Transmitted s t
  | .sendFree, s, t => Transmitted s t
  | .init _ _ _ _ _, s, t => PreciseFault s t ∨ ∃ r c, t = complete (setCtxValid true (setSc c (setRs r s)))
  | .poll, s, t =>
      (s.rxq = [] ∧ t = complete (setRes 0 s)) ∨ (s.readOk = false ∧ t = notRead s) ∨
      (s.readOk = true ∧ t = answered 0 { s with rxq := [], evq := s.evq ++ [.frameFlushRequired], res := 2 }) ∨
      ∃ f, 13 ≤ s.rxq.length ∧ s.readOk = true ∧ decodeTelemetry (s.rxq.take 13) = some f ∧
        t = update (setRes 1 (setRxt f { s with rxq := s.rxq.drop 13 }))
  | .flush, s, t =>
      (s.readOk = false ∧ t = notRead s) ∨
      ∃ v, (s.rxq = [] ∨ s.readOk = true) ∧
        t = answered 0 { s with rxq := [], evq := s.evq ++ [.frameFlushRequired], res := v }
  | .rxFw, s, t =>
      (s.rxq.length < 5 ∧ s.readOk = true ∧ t = s) ∨ (s.readOk = false ∧ t = notRead s) ∨
      ∃ a b, 5 ≤ s.rxq.length ∧ s.readOk = true ∧ t = complete (setFwv a b { s with rxq := s.rxq.drop 5 })

theorem transmit_effect (f : Frame) (s : State) : Transmitted s (transmit f s) := by
  exact ⟨f, transmit_cases f s⟩

/-- Everything UPDATE can come to. -/
theorem update_effect (s : State) : UpdateEffect s (update s) := by
  unfold update
  split
  next hv =>
    split
    next => exact .inl ⟨.carIdRange, by decide, rfl⟩
    next i hi => exact .inr ⟨i, hv, slotOf_eq_some hi, rfl⟩
  next => exact .inl ⟨.noFrame, by decide, rfl⟩

theorem commandFrame_error {id opsel arg : Byte} {tb : TimerBytes} {s : State} {f : FaultCode}
    (h : commandFrame id opsel arg tb s = .error f) : f ≠ .transport := by
  unfold commandFrame at h
  split at h
  · cases h
    decide
  · split at h
    · cases h
      decide
    · split at h
      · cases h
        decide
      · cases h

theorem poll_effect {s t : State} (h : execPoll s = .next t) : ExecEffect .poll s t := by
  unfold execPoll at h
  simp only at h
  split at h
  · cases h
    rcases flushBytes_avail 2 s with e | e
    · exact .inr (.inr (.inl e))
    · exact .inr (.inl e)
  next aligned =>
    split at h
    next none =>
      cases h
      exact .inl ⟨List.eq_nil_of_length_eq_zero none, rfl⟩
    next some =>
      have long : 13 ≤ s.rxq.length := by
        simp only [avail] at aligned some
        omega
      rcases read_cases 13 s with ⟨bad, e⟩ | ⟨short, -⟩ | ⟨-, ok, e⟩
      · rw [e] at h
        cases h
        exact .inr (.inl ⟨bad, rfl⟩)
      · omega
      · rw [e] at h
        obtain ⟨f, hf⟩ := decodeTelemetry_isSome (l := s.rxq.take 13) (by simp [long])
        simp only [hf] at h
        cases h
        exact .inr (.inr (.inr ⟨f, long, ok, hf, rfl⟩))

theorem flush_effect {s t : State} (h : execFlush s = .next t) : ExecEffect .flush s t := by
  unfold execFlush at h
  simp only at h
  split at h
  next none =>
    cases h
    have e : s.rxq = [] := List.eq_nil_of_length_eq_zero none
    exact .inr ⟨0, .inl e, by simp only [complete_eq_answered, setRes, emit, answered, e]⟩
  next =>
    cases h
    rcases flushBytes_avail (flushCount (avail s)) s with ⟨ok, e⟩ | e
    · exact .inr ⟨_, .inr ok, e⟩
    · exact .inl e

theorem rxFw_effect {s t : State} (h : execRxFw s = .next t) : ExecEffect .rxFw s t := by
  unfold execRxFw at h
  rcases read_cases 5 s with ⟨bad, e⟩ | ⟨short, ok, e⟩ | ⟨long, ok, e⟩
  · rw [e] at h
    cases h
    exact .inr (.inl ⟨bad, rfl⟩)
  · rw [e] at h
    cases h
    exact .inl ⟨short, ok, rfl⟩
  · rw [e] at h
    obtain ⟨⟨a, b⟩, hf⟩ := decodeFirmware_isSome (l := s.rxq.take 5) (by simp [long])
    simp only [hf] at h
    cases h
    exact .inr (.inr ⟨a, b, long, ok, rfl⟩)

/-- Everything an operation can do. -/
theorem exec_effect {i : Instr} {s t : State} (h : exec i s = .next t) : ExecEffect i s t := by
  cases i <;> simp only [exec] at h
  case decTel buf =>
    unfold execDecTel at h
    split at h <;> cases h
    · exact .inl ⟨.frameLength, by decide, rfl⟩
    next f hf => exact .inr ⟨f, hf, rfl⟩
  case decFw buf =>
    unfold execDecFw at h
    split at h <;> cases h
    · exact .inl ⟨.frameLength, by decide, rfl⟩
    · exact .inr ⟨_, _, rfl⟩
  case unpack =>
    unfold execUnpack at h
    split at h <;> cases h
    next hv => exact .inr ⟨hv, rfl⟩
    · exact .inl ⟨.noFrame, by decide, rfl⟩
  case encStatus =>
    unfold execEncStatus at h
    split at h <;> cases h
    · exact .inr ⟨_, rfl⟩
    · exact .inl ⟨.notInit, by decide, rfl⟩
  case encCmd =>
    unfold execEncCmd at h
    split at h <;> cases h
    next f hf => exact .inl ⟨f, commandFrame_error hf, rfl⟩
    · exact .inr ⟨_, rfl⟩
  case encFwreq => cases h; exact ⟨_, rfl⟩
  case encFree => cases h; exact ⟨_, rfl⟩
  case tStart => cases h; exact rfl
  case tPause => cases h; exact rfl
  case tResume => cases h; exact rfl
  case tStop => cases h; exact rfl
  case tValue => cases h; exact ⟨_, rfl⟩
  case tValueCs => cases h; exact ⟨_, rfl⟩
  case tBytes => cases h; exact ⟨_, rfl⟩
  case update => cases h; exact update_effect s
  case rdCar =>
    unfold execRdCar at h
    split at h
    · cases h
      exact .inl ⟨.carIdRange, by decide, rfl⟩
    · split at h <;> cases h
      next i _ hk => exact .inr ⟨i, hk, rfl⟩
      · exact .inl ⟨.unknownCar, by decide, rfl⟩
  case setState =>
    unfold execSetState at h
    split at h
    · split at h <;> cases h
      · exact .inl ⟨.operandRange, by decide, rfl⟩
      · exact .inr ⟨_, transmit_effect _ _⟩
    · cases h
      exact .inl ⟨.notInit, by decide, rfl⟩
  case setSpeed =>
    unfold execSetSpeed at h
    split at h <;> cases h
    · exact .inr ⟨_, transmit_effect _ _⟩
    · exact .inl ⟨.notInit, by decide, rfl⟩
  case setConfig =>
    unfold execSetConfig at h
    split at h
    · split at h <;> cases h
      · exact .inl ⟨.operandRange, by decide, rfl⟩
      · exact .inr ⟨_, rfl⟩
    · cases h
      exact .inl ⟨.notInit, by decide, rfl⟩
  case sendStatus =>
    unfold execSendStatus at h
    split at h <;> cases h
    · exact .inr (transmit_effect _ _)
    · exact .inl ⟨.notInit, by decide, rfl⟩
  case sendCmd =>
    unfold execSendCmd at h
    split at h <;> cases h
    next f hf => exact .inl ⟨f, commandFrame_error hf, rfl⟩
    · exact .inr (transmit_effect _ _)
  case sendFwreq => cases h; exact transmit_effect _ _
  case sendFree => cases h; exact transmit_effect _ _
  case init =>
    unfold execInit at h
    split at h <;> cases h
    · exact .inr ⟨_, _, rfl⟩
    · exact .inl ⟨.operandRange, by decide, rfl⟩
  case poll => exact poll_effect h
  case flush => exact flush_effect h
  case rxFw => exact rxFw_effect h

end Sys2Proof.Machine
end

