-- ==== Sys2Proof/Laws/PerInstr.lean ====
section
/-! SUPPORT. The family of per-operation lemmas named in LAWS.json: every encoded request has its reserved byte `rsv`
zero (30_encoding.md R70, R74). -/

namespace Sys2Proof.Laws

/-- `rsv = req[7:0]` of the operation's request word is zero (30_encoding.md R70, R74). -/
def RsvZero.Statement (i : Instr) : Prop := byteAt (encode i).word 0 = 0

theorem rsv_packWord (op p0 p1 p2 p3 p4 p5 : Byte) : byteAt (packWord op p0 p1 p2 p3 p4 p5) 0 = 0 :=
  (Machine.byteAt_packWord op p0 p1 p2 p3 p4 p5).2.2.2.2.2.2.2

theorem RsvZero.decTel (buf : List Byte) : RsvZero.Statement (.decTel buf) := rsv_packWord ..
theorem RsvZero.decFw (buf : List Byte) : RsvZero.Statement (.decFw buf) := rsv_packWord ..
theorem RsvZero.unpack : RsvZero.Statement .unpack := rsv_packWord ..
theorem RsvZero.encStatus (tb0 tb1 tb2 : Byte) : RsvZero.Statement (.encStatus tb0 tb1 tb2) := rsv_packWord ..
theorem RsvZero.encCmd (id opsel arg tb0 tb1 tb2 : Byte) : RsvZero.Statement (.encCmd id opsel arg tb0 tb1 tb2) := rsv_packWord ..
theorem RsvZero.encFwreq : RsvZero.Statement .encFwreq := rsv_packWord ..
theorem RsvZero.encFree : RsvZero.Statement .encFree := rsv_packWord ..
theorem RsvZero.tStart : RsvZero.Statement .tStart := rsv_packWord ..
theorem RsvZero.tPause : RsvZero.Statement .tPause := rsv_packWord ..
theorem RsvZero.tResume : RsvZero.Statement .tResume := rsv_packWord ..
theorem RsvZero.tStop : RsvZero.Statement .tStop := rsv_packWord ..
theorem RsvZero.tValue : RsvZero.Statement .tValue := rsv_packWord ..
theorem RsvZero.tValueCs : RsvZero.Statement .tValueCs := rsv_packWord ..
theorem RsvZero.tBytes : RsvZero.Statement .tBytes := rsv_packWord ..
theorem RsvZero.update : RsvZero.Statement .update := rsv_packWord ..
theorem RsvZero.rdCar (id : Byte) : RsvZero.Statement (.rdCar id) := rsv_packWord ..
theorem RsvZero.setState (ssel : Byte) : RsvZero.Statement (.setState ssel) := rsv_packWord ..
theorem RsvZero.setSpeed (speed : Byte) : RsvZero.Statement (.setSpeed speed) := rsv_packWord ..
theorem RsvZero.setConfig (trig count mode : Byte) : RsvZero.Statement (.setConfig trig count mode) := rsv_packWord ..
theorem RsvZero.sendStatus : RsvZero.Statement .sendStatus := rsv_packWord ..
theorem RsvZero.sendCmd (id opsel arg : Byte) : RsvZero.Statement (.sendCmd id opsel arg) := rsv_packWord ..
theorem RsvZero.sendFwreq : RsvZero.Statement .sendFwreq := rsv_packWord ..
theorem RsvZero.sendFree : RsvZero.Statement .sendFree := rsv_packWord ..
theorem RsvZero.init (ssel speed trig count mode : Byte) : RsvZero.Statement (.init ssel speed trig count mode) := rsv_packWord ..
theorem RsvZero.poll : RsvZero.Statement .poll := rsv_packWord ..
theorem RsvZero.flush : RsvZero.Statement .flush := rsv_packWord ..
theorem RsvZero.rxFw : RsvZero.Statement .rxFw := rsv_packWord ..

end Sys2Proof.Laws
end

