-- ==== Sys2Proof/Tests/Slice0.lean ====
section
/-! SUPPORT. The model's own tests, each one step on a small state; expected values are those of 95_test_vectors.md
(vector named in the docstring) or are worked out by hand from the rule cited. After them, a witness for the hypotheses
of every statement that has some. -/

namespace Sys2Proof.Tests

open Sys2Proof Sys2Proof.Machine

/-! ### Helpers -/

/-- The state after an operation. -/
def run (i : Instr) (s : State) : State :=
  match exec i s with
  | .next t => t
  | _ => s

/-- `CFG_REF`, the reference configuration of 92_eei_decisions.md D30. -/
def cfgRef : Config.Params :=
  { rsCode := fun
      | .stopped => 0x01
      | .running => 0x03
      | .paused => 0x04
      | .flaggedLc => 0x05
      | .flaggedNolc => 0x15
    pitCountBits := fun
      | .disabled => 0x00
      | .enabled => 0x20
    pitTrigBits := fun
      | .enter => 0x00
      | .leave => 0x40
    powerModeBits := fun
      | .triggerPosition => 0x00
      | .pwm => 0x01
    cmdLow := fun
      | .noAction => 0
      | .setPitSpeed => 1
      | .setMaxSpeed => 2
      | .setMinSpeed => 3
      | .setRfLevel => 4
      | .setMaxBrake => 5
      | .setMinLapTime => 6
    suppressFirstFrameEvents := false }

def running200 : RaceStatus := { state := .running, speed := 200 }
def leaveEnabledPwm : SystemConfig := { trig := .leave, count := .enabled, mode := .pwm }
def enterDisabledTp : SystemConfig := { trig := .enter, count := .disabled, mode := .triggerPosition }
def tb03E8 : TimerBytes := { tb0 := 0x00, tb1 := 0x03, tb2 := 0xE8 }
def tb0 : TimerBytes := { tb0 := 0x00, tb1 := 0x00, tb2 := 0x00 }

/-- A timer from its four registers. -/
def tmr (running : Bool) (start pacc sacc : Word64) : Timer :=
  { running := running, start := start, pacc := pacc, sacc := sacc }

/-- Reset, but for the timer and `now`. -/
def timed (t : Timer) (now : Word64) : State := { State.reset with timer := t, now := now }

/-- The builder's start state of 95_test_vectors.md section 2.5: INIT done, the timer at exactly 1000 cs. -/
def ready : State :=
  { State.reset with
    ctxValid := true, rs := running200, sc := leaveEnabledPwm, timer := tmr true 100 0 0, now := 10000000100 }

/-- `ready`, but every `Write` fails. -/
def readyNoWrite : State := { ready with writeOk := false }

/-- V3's frame. -/
def frameV3 : List Byte := [0x13, 0x05, 0x01, 0xF4, 0x0A, 0x04, 0x00, 0x85, 0x00, 0x08, 0x00, 0x03, 0xE8]
/-- V7's frame, car id 21. -/
def frameV7 : List Byte := [0x02, 0x15, 0, 0, 0, 0, 0, 0x80, 0, 0, 0, 0, 0]

/-- A car on track with a lap count, an in-pit flag and nothing else set. -/
def carWith (id : Byte) (laps : BitVec 16) (pit : Bool) : CarState :=
  { zeroCar with id := id, link := true, onTrack := true, lapCount := laps, inPit := pit }

/-- Reset with `CAR[5]` known. -/
def car5 (laps : BitVec 16) (pit : Bool) : State :=
  { State.reset with cars := State.reset.cars.set 5 { known := true, car := carWith 5 laps pit } }

/-- `s` with a frame decoded into `RXT`. -/
def withFrame (frame : List Byte) (s : State) : State :=
  match decodeTelemetry frame with
  | some f => setRxt f s
  | none => s

/-- The events one UPDATE of a frame emits. -/
def updateEvents (frame : List Byte) (s : State) : List Event := (run .update (withFrame frame s)).evq

/-- The two aggregates when no button calls and every car is on track. -/
def agg : List Event := [.trackCall false 0, .allCarsOnTrack true 0]

/-- Reset with bytes waiting. -/
def waiting (bytes : List Byte) : State := { State.reset with rxq := bytes }
/-- Reset with bytes waiting and a failing `Read`. -/
def waitingNoRead (bytes : List Byte) : State := { State.reset with rxq := bytes, readOk := false }

/-- Reset with one request word at the port. -/
def asked (w : Word64) : State := { State.reset with reqs := [⟨w, []⟩] }

/-- Bytes 1 to 6 and 8 to 10 of a frame: those no open parameter decides. -/
def fixedBytes (f : Frame) : List Byte := [f[1], f[2], f[3], f[4], f[5], f[6], f[8], f[9], f[10]]

/-! ### Well-formed and legal operations -/

/-- A buffer of 255 bytes can be presented, one of 256 cannot (00_scope.md R8). -/
theorem test_wellFormed_decTel :
    (Instr.decTel (List.replicate 255 0)).WellFormed = true ∧ (Instr.decTel (List.replicate 256 0)).WellFormed = false := by
  simp only [Instr.WellFormed, List.length_replicate]
  decide

theorem test_wellFormed_decFw :
    (Instr.decFw (List.replicate 255 0)).WellFormed = true ∧ (Instr.decFw (List.replicate 256 0)).WellFormed = false := by
  simp only [Instr.WellFormed, List.length_replicate]
  decide

/-- Each operand at the end of its legal set and one past it (30_encoding.md R73). -/
theorem test_legal_encCmd :
    (Instr.encCmd 20 6 0 0 0 0).Legal = true ∧ (Instr.encCmd 21 6 0 0 0 0).Legal = false ∧
    (Instr.encCmd 20 7 0 0 0 0).Legal = false := by decide

theorem test_legal_sendCmd :
    (Instr.sendCmd 20 6 255).Legal = true ∧ (Instr.sendCmd 21 6 0).Legal = false ∧
    (Instr.sendCmd 20 7 0).Legal = false := by decide

theorem test_legal_rdCar : (Instr.rdCar 20).Legal = true ∧ (Instr.rdCar 21).Legal = false := by decide

theorem test_legal_setState : (Instr.setState 4).Legal = true ∧ (Instr.setState 5).Legal = false := by decide

theorem test_legal_setConfig :
    (Instr.setConfig 1 1 1).Legal = true ∧ (Instr.setConfig 2 0 0).Legal = false ∧
    (Instr.setConfig 0 2 0).Legal = false ∧ (Instr.setConfig 0 0 2).Legal = false := by decide

theorem test_legal_init :
    (Instr.init 4 255 1 1 1).Legal = true ∧ (Instr.init 5 0 0 0 0).Legal = false ∧
    (Instr.init 0 0 2 0 0).Legal = false ∧ (Instr.init 0 0 0 2 0).Legal = false ∧
    (Instr.init 0 0 0 0 2).Legal = false := by decide

/-! ### Decoding -/

/-- One word of each format written out byte by byte in binary from 30_encoding.md R70 to R72. -/
theorem test_decode_bits_codec :
    decode ⟨0b00000001#8 ++ 0#56, frameV3⟩ = .ok (.decTel frameV3) ∧
    decode ⟨0b00000100#8 ++ 0b00000001#8 ++ 0b00000010#8 ++ 0b00000011#8 ++ 0#32, []⟩ = .ok (.encStatus 1 2 3) ∧
    decode ⟨0b00000101#8 ++ 0b00000001#8 ++ 0b00000010#8 ++ 0b00000011#8 ++ 0b00000100#8 ++ 0b00000101#8 ++ 0b00000110#8
      ++ 0#8, []⟩ = .ok (.encCmd 1 2 3 4 5 6) := by decide

theorem test_decode_bits_timer_registry :
    decode ⟨0b00010001#8 ++ 0#56, []⟩ = .ok .tPause ∧
    decode ⟨0b00100001#8 ++ 0b00010100#8 ++ 0#48, []⟩ = .ok (.rdCar 20) := by decide

theorem test_decode_bits_builder_rxpath :
    decode ⟨0b00110111#8 ++ 0b00000001#8 ++ 0b00000010#8 ++ 0b00000011#8 ++ 0b00000100#8 ++ 0b00000101#8 ++ 0#16, []⟩ =
      .ok (.init 1 2 3 4 5) ∧
    decode ⟨0b01000001#8 ++ 0#56, []⟩ = .ok .flush := by decide

/-- The codec rows, with the words of 95_test_vectors.md sections 2.1 and 2.2. -/
theorem test_decode_codec_rows :
    decode ⟨0x0100000000000000, [1, 2, 3]⟩ = .ok (.decTel [1, 2, 3]) ∧
    decode ⟨0x0200000000000000, [0x03, 0x0A, 0xFF, 0x00, 0x7E]⟩ = .ok (.decFw [0x03, 0x0A, 0xFF, 0x00, 0x7E]) ∧
    decodeTableWord 64 0x0300000000000000 = some .unpack ∧
    decodeTableWord 64 0x04FFFFFF00000000 = some (.encStatus 0xFF 0xFF 0xFF) ∧
    decodeTableWord 64 0x051406FFFFFFFF00 = some (.encCmd 20 6 255 0xFF 0xFF 0xFF) ∧
    decodeTableWord 64 0x0600000000000000 = some .encFwreq ∧ decodeTableWord 64 0x0700000000000000 = some .encFree := by
  decide

/-- The timer rows (section 2.3). -/
theorem test_decode_timer_rows :
    decodeTableWord 64 0x1000000000000000 = some .tStart ∧ decodeTableWord 64 0x1100000000000000 = some .tPause ∧
    decodeTableWord 64 0x1200000000000000 = some .tResume ∧ decodeTableWord 64 0x1300000000000000 = some .tStop ∧
    decodeTableWord 64 0x1400000000000000 = some .tValue ∧ decodeTableWord 64 0x1500000000000000 = some .tValueCs ∧
    decodeTableWord 64 0x1600000000000000 = some .tBytes := by decide

/-- The registry and receive-path rows (sections 2.4 and 2.6). -/
theorem test_decode_registry_rxpath_rows :
    decodeTableWord 64 0x2000000000000000 = some .update ∧ decodeTableWord 64 0x2106000000000000 = some (.rdCar 6) ∧
    decodeTableWord 64 0x4000000000000000 = some .poll ∧ decodeTableWord 64 0x4100000000000000 = some .flush ∧
    decodeTableWord 64 0x4200000000000000 = some .rxFw := by decide

/-- The builder rows (section 2.5; Q7, Q8, Q11). -/
theorem test_decode_builder_rows :
    decodeTableWord 64 0x3002000000000000 = some (.setState 2) ∧
    decodeTableWord 64 0x3180000000000000 = some (.setSpeed 128) ∧
    decodeTableWord 64 0x3200000000000000 = some (.setConfig 0 0 0) ∧
    decodeTableWord 64 0x3300000000000000 = some .sendStatus ∧
    decodeTableWord 64 0x34FFFFFF00000000 = some (.sendCmd 255 255 255) ∧
    decodeTableWord 64 0x3500000000000000 = some .sendFwreq ∧ decodeTableWord 64 0x3600000000000000 = some .sendFree ∧
    decodeTableWord 64 0x3701C80101010000 = some (.init 1 200 1 1 1) := by decide

/-- Q2, Q3, Q6, Q9, Q10: a reserved byte that is not zero. -/
theorem test_decode_reserved :
    decode ⟨0x1000000000000001, []⟩ = .error .reservedByte ∧ decode ⟨0x1001000000000000, []⟩ = .error .reservedByte ∧
    decode ⟨0x3001010000000000, []⟩ = .error .reservedByte ∧ decode ⟨0x3701C80101010100, []⟩ = .error .reservedByte ∧
    decode ⟨0x050505400003E801, []⟩ = .error .reservedByte := by decide

/-- Q4, Q5: an unassigned `op`. -/
theorem test_decode_unassigned :
    decode ⟨0x0000000000000000, []⟩ = .error .unassignedOp ∧ decode ⟨0x0800000000000000, []⟩ = .error .unassignedOp ∧
    decode ⟨0x1700000000000000, []⟩ = .error .unassignedOp ∧ decode ⟨0x2200000000000000, []⟩ = .error .unassignedOp ∧
    decode ⟨0x3800000000000000, []⟩ = .error .unassignedOp ∧ decode ⟨0x4300000000000000, []⟩ = .error .unassignedOp ∧
    decode ⟨0xFF00000000000000, []⟩ = .error .unassignedOp := by decide

/-- Q12: UNPACK ignores the buffer. -/
theorem test_decode_ignores_buffer : decode ⟨0x0300000000000000, [1, 2, 3]⟩ = .ok .unpack := by decide

/-- B5 and P1: the words of two pseudo-operations (30_encoding.md R90). -/
theorem test_pseudo :
    (encode (expandPseudo (.setPitSpeed 0 60))).word = 0x3400013C00000000 ∧
    (encode (expandPseudo (.setMaxBrake 5 64))).word = 0x3405054000000000 ∧
    expandPseudo (.setCarMaxSpeed 1 9) = .sendCmd 1 2 9 ∧ expandPseudo (.setCarMinSpeed 1 9) = .sendCmd 1 3 9 ∧
    expandPseudo (.setRfLevel 1 9) = .sendCmd 1 4 9 ∧ expandPseudo (.setMinLapTime 1 9) = .sendCmd 1 6 9 ∧
    expandPseudo (.sendNop 7) = .sendCmd 7 0 0 := by decide

/-! ### Inbound codec -/

/-- V3. -/
theorem test_decTel_v3 :
    (run (.decTel frameV3) State.reset).rxt =
      { valid := true
        frame := { status := 0x13, id := 5, lapTicks := 500, lapCount := 4, power := 0x85, firmware := 0, buttons := 0x08,
                   ts := 990 } } := by decide

/-- V4 and V5 (byte orders), V8 (the least timestamp), V2 (its timestamp). -/
theorem test_decTel_orders :
    (decodeTelemetry [0x02, 0x03, 0x12, 0x34, 0x00, 0x34, 0x12, 0x80, 0, 0, 0, 0, 0x64]).map
      (fun f => (f.lapTicks, f.lapCount, f.ts.toInt)) = some (4660, 4660, 100) ∧
    (decodeTelemetry [0x02, 0x03, 0, 0, 0, 0, 0x01, 0x80, 0, 0, 0, 0, 0]).map (fun f => f.lapCount) = some 256 ∧
    (decodeTelemetry [0, 0, 0, 0, 0xFF, 0, 0, 0, 0, 0, 0, 0, 0]).map (fun f => (f.ts, f.ts.toInt)) =
      some (0x1FFFF01, -255) ∧
    (decodeTelemetry (List.replicate 13 0xFF)).map (fun f => f.ts.toInt) = some 16776960 := by decide

/-- V13. -/
theorem test_decFw_v13 :
    (run (.decFw [0x03, 0x0A, 0xFF, 0x00, 0x7E]) State.reset).fwv = { valid := true, major := 3, minor := 10 } := by decide

/-- V15. -/
theorem test_decFw_v15 :
    run (.decFw [0x03, 0x0A]) State.reset = raise .frameLength State.reset ∧
    run (.decFw frameV3) State.reset = raise .frameLength State.reset := by decide

/-- V3 (S1). -/
theorem test_unpack_v3 :
    (run .unpack (withFrame frameV3 State.reset)).csr =
      { valid := true
        car := { zeroCar with reset := true, link := true, inPit := true, id := 5, lapTicks := 500, lapCount := 4,
                              powerRaw := 5, onTrack := true, trackCall := true, ts := 990 } } := by decide

/-- V2 and V6: all flags, and the bits no mask takes. -/
theorem test_unpack_masks :
    (run .unpack (withFrame (List.replicate 13 0xFF) State.reset)).csr.car =
      { reset := true, link := true, inPit := true, id := 255, lapTicks := 65535, lapCount := 65535, powerRaw := 127,
        onTrack := true, battLow := true, trackCall := true, lapShort := true, up := true, down := true, round := true,
        ts := 16776960 } ∧
    (run .unpack (withFrame [0xEC, 0x01, 0, 0, 0, 0, 0, 0, 0, 0x03, 0, 0, 0] State.reset)).csr.car =
      { zeroCar with id := 1 } := by decide

/-- V3: 2000/397 s and 50/127; V2: 10. -/
theorem test_real_values : lapSeconds 500#16 = 2000 / 397 ∧ powerScaled 5#7 = 50 / 127 ∧ powerScaled 127#7 = 10 := by
  refine ⟨?_, ?_, ?_⟩ <;> simp only [lapSeconds, powerScaled, BitVec.toNat_ofNat] <;> norm_num

theorem test_firmware_byte : firmwareInfo 0x42 = .unknown := by decide

/-! ### Outbound codec -/

/-- E7, and the status byte 0 of two rows of the CFG_REF table. -/
theorem test_encStatus_ref :
    encodeStatus cfgRef running200 leaveEnabledPwm tb03E8 =
      #v[0x63, 0xC8, 0x00, 0x00, 0x00, 0x80, 0x00, 0x01, 0x00, 0x03, 0xE8] ∧
    encodeStatus cfgRef { state := .flaggedNolc, speed := 0x7F } leaveEnabledPwm tb0 =
      #v[0x75, 0x7F, 0x00, 0x00, 0x00, 0x80, 0x00, 0x01, 0x00, 0x00, 0x00] ∧
    encodeStatus cfgRef { state := .stopped, speed := 0x7F } enterDisabledTp tb0 =
      #v[0x01, 0x7F, 0x00, 0x00, 0x00, 0x80, 0x00, 0x00, 0x00, 0x00, 0x00] := by decide

/-- E1 on the machine. -/
theorem test_encStatus_e1 :
    fixedBytes (run (.encStatus 7 8 9) ready).txb.b = [0xC8, 0x00, 0x00, 0x00, 0x80, 0x00, 7, 8, 9] ∧
    (run (.encStatus 7 8 9) ready).txb.valid = true := by decide

/-- E5, E6, E9, and the command byte 0 of the flagged_nolc row. -/
theorem test_encCmd_ref :
    encodeCommand cfgRef running200 leaveEnabledPwm 0 .setMaxSpeed 100 tb03E8 =
      #v[0x66, 0xC8, 0x00, 0x02, 0x64, 0x80, 0x00, 0x01, 0x00, 0x03, 0xE8] ∧
    encodeCommand cfgRef running200 leaveEnabledPwm 5 .setMaxBrake 64 tb03E8 =
      #v[0x66, 0xC8, 0x05, 0x00, 0x00, 0x85, 0x40, 0x01, 0x00, 0x03, 0xE8] ∧
    encodeCommand cfgRef running200 leaveEnabledPwm 20 .setMinLapTime 255 { tb0 := 0xFF, tb1 := 0xFF, tb2 := 0xFF } =
      #v[0x66, 0xC8, 0x14, 0x00, 0x00, 0x86, 0xFF, 0x01, 0xFF, 0xFF, 0xFF] ∧
    encodeCommand cfgRef { state := .flaggedNolc, speed := 0x7F } leaveEnabledPwm 0 .noAction 0 tb0 =
      #v[0x76, 0x7F, 0x00, 0x00, 0x00, 0x80, 0x00, 0x01, 0x00, 0x00, 0x00] := by decide

/-- E12 to E15: the order of the checks. -/
theorem test_encCmd_checks :
    (run (.encCmd 21 0 0 0 0 0) ready).rspq = [2] ∧ (run (.encCmd 5 7 0 0 0 0) ready).rspq = [6] ∧
    (run (.encCmd 21 7 0 0 0 0) ready).rspq = [2] ∧ (run (.encCmd 21 7 0 0 0 0) State.reset).rspq = [3] := by decide

/-- E16. -/
theorem test_encFwreq : (run .encFwreq State.reset).txb =
    { valid := true, b := #v[0x06, 0x06, 0x06, 0x06, 0x00, 0x00, 0x00, 0x01, 0x00, 0x00, 0x00] } := by decide

theorem test_encFree : (run .encFree State.reset).txb =
    { valid := true, b := #v[0x0F, 0xFF, 0x00, 0x00, 0x00, 0x80, 0x00, 0x80, 0x00, 0x00, 0x00] } := by decide

/-! ### Race timer -/

/-- T1, T2. -/
theorem test_tStart :
    (run .tStart (timed (tmr false 0 0 0) 5000)).timer = tmr true 5000 0 0 ∧
    (run .tStart (timed (tmr true 5000 0 0) 7000)).timer = tmr true 5000 0 0 := by decide

/-- T12, T13. -/
theorem test_tStart_again :
    (run .tStart (timed (tmr false 50000000000 0 42000000000) 99000000000)).timer = tmr true 99000000000 0 0 ∧
    (run .tStart (timed (tmr false 5000 30000000000 0) 40000000000)).timer = tmr true 40000000000 30000000000 0 := by
  decide

/-- T3, T5, T9. -/
theorem test_tPause :
    (run .tPause (timed (tmr true 5000 0 0) 30000005000)).timer = tmr false 5000 30000000000 0 ∧
    (run .tPause (timed (tmr false 5000 30000000000 0) 40000000000)).timer = tmr false 5000 30000000000 0 ∧
    (run .tPause (timed (tmr true 5000 0 0) 5000)).timer = tmr false 5000 0 0 := by decide

/-- T6, T9, T15. -/
theorem test_tResume :
    (run .tResume (timed (tmr false 5000 30000000000 0) 50000000000)).timer = tmr true 50000000000 30000000000 0 ∧
    (run .tResume (timed (tmr false 5000 0 0) 5000)).timer = tmr false 5000 0 0 ∧
    (run .tResume (timed (tmr true 50000000000 30000000000 0) 55000000000)).timer =
      tmr true 50000000000 30000000000 0 := by decide

/-- T8, T11, T14. -/
theorem test_tStop :
    (run .tStop (timed (tmr true 50000000000 30000000000 0) 62000000000)).timer =
      tmr false 50000000000 0 42000000000 ∧
    (run .tStop (timed (tmr false 50000000000 0 42000000000) 70000000000)).timer =
      tmr false 50000000000 0 42000000000 ∧
    (run .tStop (timed (tmr false 5000 30000000000 0) 40000000000)).timer = tmr false 5000 0 30000000000 := by decide

/-- T7, T4. -/
theorem test_tValue :
    (run .tValue (timed (tmr true 50000000000 30000000000 0) 62000000000)).res = 42000000000 ∧
    (run .tValue (timed (tmr false 5000 30000000000 0) 40000000000)).res = 0 := by decide

/-- T7, T16 to T18, T23. -/
theorem test_tValueCs :
    (run .tValueCs (timed (tmr true 50000000000 30000000000 0) 62000000000)).res = 4200 ∧
    (run .tValueCs (timed (tmr true 0 0 0) 9999999)).res = 0 ∧ (run .tValueCs (timed (tmr true 0 0 0) 10000000)).res = 1 ∧
    (run .tValueCs (timed (tmr true 0 0 0) 19999999)).res = 1 ∧
    (run .tValueCs (timed (tmr true 0 0 0) 21474836480000000)).res = 2147483648 := by decide

/-- T7, S2, T19 to T21, T24. -/
theorem test_tBytes :
    (run .tBytes (timed (tmr true 50000000000 30000000000 0) 62000000000)).res = 0x001068 ∧
    (run .tBytes (timed (tmr true 100 0 0) 10000000100)).res = 0x0003E8 ∧
    (run .tBytes (timed (tmr true 0 0 0) 167772150000000)).res = 0xFFFFFF ∧
    (run .tBytes (timed (tmr true 0 0 0) 167772160000000)).res = 0 ∧
    (run .tBytes (timed (tmr true 0 0 0) 167772170000000)).res = 1 ∧
    (run .tBytes (timed (tmr true 0 0 0) 21474846480000000)).res = 0x0003E8 := by decide

/-- 10_state.md R22 on the states of T1, T3 and T9. -/
theorem test_timerState :
    timerStateOf (tmr true 5000 0 0) = .running ∧ timerStateOf (tmr false 5000 30000000000 0) = .paused ∧
    timerStateOf (tmr false 5000 0 0) = .stopped := by decide

/-! ### Registry -/

/-- G1, G2: a greater count, an equal count. -/
theorem test_update_laps :
    updateEvents [0x02, 0x05, 0, 0, 0, 0x04, 0, 0x80, 0, 0, 0, 0, 0x64] (car5 3 false) =
      [.newLap 5 4 100 0 false] ++ agg ∧
    updateEvents [0x02, 0x05, 0, 0, 0, 0x03, 0, 0x80, 0, 0, 0, 0, 0x64] (car5 3 false) = agg := by decide

/-- The example of 43_registry.md R160. -/
theorem test_update_example :
    updateEvents frameV3 (car5 3 false) =
      [.newLap 5 4 990 500 false, .pitEnter 5 990, .trackCall true 0x20, .allCarsOnTrack true 0] ∧
    (run .update (withFrame frameV3 (car5 3 false))).cars[5] =
      { known := true
        car := { zeroCar with reset := true, link := true, inPit := true, id := 5, lapTicks := 500, lapCount := 4,
                              powerRaw := 5, onTrack := true, trackCall := true, ts := 990 } } := by decide

/-- G3, G13, G14, G15: a lower count is silent, a wrap is a decrease, a jump is one event, the comparison is 16 bits. -/
theorem test_diff_laps :
    lapEvents (carWith 5 3 false) (carWith 5 2 false) = [] ∧ lapEvents (carWith 5 65535 false) (carWith 5 0 false) = [] ∧
    lapEvents (carWith 5 3 false) (carWith 5 10 false) = [.newLap 5 10 0 0 false] ∧
    lapEvents (carWith 5 255 false) (carWith 5 256 false) = [.newLap 5 256 0 0 false] := by decide

/-- G7, G8, G9. -/
theorem test_diff_pit :
    pitEvents (carWith 5 4 false) { carWith 5 4 true with ts := 100 } = [.pitEnter 5 100] ∧
    pitEvents (carWith 5 4 true) { carWith 5 4 false with ts := 100 } = [.pitLeave 5 100] ∧
    pitEvents (carWith 5 4 true) { carWith 5 4 true with ts := 100 } = [] := by decide

/-- G4, G5, G6: the first frame of a car. -/
theorem test_diff_first_frame :
    diffEvents false { known := false, car := zeroCar } { carWith 9 7 true with ts := 50 } =
      [.newLap 9 7 50 0 false, .pitEnter 9 50] ∧
    diffEvents true { known := false, car := zeroCar } { carWith 9 7 true with ts := 50 } = [] ∧
    diffEvents false { known := false, car := zeroCar } (carWith 2 0 false) = [] := by decide

/-- G10, G11: the off-track set is over all known cars. -/
theorem test_aggregates :
    aggregateEvents ((car5 4 false).cars.set 2 { known := true, car := carWith 2 0 false }) = agg ∧
    updateEvents [0x02, 0x05, 0, 0, 0, 0x04, 0, 0x00, 0, 0, 0, 0, 0x64] (car5 4 false) =
      [.trackCall false 0, .allCarsOnTrack false 0x20] := by decide

/-- G12, G17. -/
theorem test_update_faults :
    run .update (withFrame frameV7 (car5 3 false)) = raise .carIdRange (withFrame frameV7 (car5 3 false)) ∧
    run .update State.reset = raise .noFrame State.reset := by decide

/-- G18. -/
theorem test_rdCar :
    (run (.rdCar 5) (car5 4 false)).csr.car.lapCount = 4 ∧ (run (.rdCar 6) (car5 4 false)).rspq = [8] ∧
    (run (.rdCar 21) (car5 4 false)).rspq = [2] := by decide

/-- The event words of 95_test_vectors.md section 2.4. -/
theorem test_eventWords :
    eventWord (.newLap 5 4 990 500 false) = 0x020000000000000003E80003DE000405 ∧
    eventWord (.pitEnter 5 990) = 0x0300000000000000000000000003DE05 ∧
    eventWord (.trackCall true 0x20) = 0x05000000000000000000000000000041 ∧
    eventWord (.allCarsOnTrack true 0) = 0x06000000000000000000000000000001 ∧
    eventWord (.newLap 0 1 (BitVec.ofInt 25 (-5)) 0 true) = 0x02000000000000020001FFFFFB000100 ∧
    eventWord (.pitLeave 7 65634) = 0x04000000000000000000000001006207 := by decide

theorem test_eventWords_rest :
    eventWord (.allCarsOnTrack false 0x100080) = 0x06000000000000000000000000200100 ∧
    eventWord .frameFlushRequired = 0x01000000000000000000000000000000 ∧ eventWord (.dongleConnected false) = 0 ∧
    eventWord (.transmitReady #v[0x63, 0xC8, 0x00, 0x00, 0x00, 0x80, 0x00, 0x01, 0x00, 0x03, 0xE8]) =
      0x070000000063C80000008000010003E8 := by decide

/-! ### Builder -/

/-- INIT writes the context (44_builder.md R181) and B15. -/
theorem test_init :
    run (.init 1 200 1 1 1) State.reset =
      answered 0 { State.reset with ctxValid := true, rs := running200, sc := leaveEnabledPwm } ∧
    run (.init 5 0 0 0 0) State.reset = raise .operandRange State.reset ∧
    run (.init 0 0 2 0 0) State.reset = raise .operandRange State.reset := by decide

/-- B3, B14. -/
theorem test_setState :
    (run (.setState 2) ready).rs = { state := .paused, speed := 200 } ∧ (run (.setState 2) ready).timer = ready.timer ∧
    run (.setState 5) ready = raise .operandRange ready := by decide

/-- B2, B12. -/
theorem test_setSpeed :
    (run (.setSpeed 128) ready).txq.map fixedBytes = [[0x80, 0x00, 0x00, 0x00, 0x80, 0x00, 0x00, 0x03, 0xE8]] ∧
    (run (.setSpeed 10) readyNoWrite).rs.speed = 10 ∧ (run (.setSpeed 10) readyNoWrite).rspq = [7] ∧
    (run (.setSpeed 10) readyNoWrite).txq = [] := by decide

/-- B7. -/
theorem test_setConfig :
    run (.setConfig 0 0 0) ready = answered 0 { ready with sc := enterDisabledTp } ∧
    run (.setConfig 0 0 2) ready = raise .operandRange ready := by decide

/-- B1, B10. -/
theorem test_sendStatus :
    (run .sendStatus ready).txq.map fixedBytes = [[0xC8, 0x00, 0x00, 0x00, 0x80, 0x00, 0x00, 0x03, 0xE8]] ∧
    (run .sendStatus { ready with timer := tmr false 5000 30000000000 0 }).txq.map fixedBytes =
      [[0xC8, 0x00, 0x00, 0x00, 0x80, 0x00, 0x00, 0x00, 0x00]] := by decide

/-- B11. -/
theorem test_sendStatus_fails :
    (run .sendStatus readyNoWrite).txq = [] ∧ (run .sendStatus readyNoWrite).txb.valid = true ∧
    (run .sendStatus readyNoWrite).evq =
      [.transmitReady (run .sendStatus readyNoWrite).txb.b, .dongleConnected false] ∧
    (run .sendStatus readyNoWrite).rspq = [7] := ⟨rfl, rfl, rfl, rfl⟩

/-- B4 (its argument and target), B16. -/
theorem test_sendCmd :
    (run (.sendCmd 5 0 64) ready).txq.map fixedBytes = [[0xC8, 0x05, 0x00, 0x00, 0x80, 0x40, 0x00, 0x03, 0xE8]] ∧
    (run (.sendCmd 21 1 0) ready).rspq = [2] ∧ (run (.sendCmd 5 7 0) ready).rspq = [6] := by decide

/-- B8, P5: before INIT. -/
theorem test_sendFwreq :
    (run .sendFwreq State.reset).txq = [#v[0x06, 0x06, 0x06, 0x06, 0x00, 0x00, 0x00, 0x01, 0x00, 0x00, 0x00]] := by decide

/-- B9. -/
theorem test_sendFree :
    (run .sendFree ready).txq = [#v[0x0F, 0xFF, 0x00, 0x00, 0x00, 0x80, 0x00, 0x80, 0x00, 0x00, 0x00]] ∧
    (run .sendFree ready).rs = running200 := by decide

/-- B13. -/
theorem test_not_init :
    (run (.setState 1) State.reset).rspq = [3] ∧ (run (.setSpeed 1) State.reset).rspq = [3] ∧
    (run (.setConfig 0 0 0) State.reset).rspq = [3] ∧ (run .sendStatus State.reset).rspq = [3] ∧
    (run (.sendCmd 0 0 0) State.reset).rspq = [3] := by decide

/-! ### Receive path -/

/-- X1, X4, X6. -/
theorem test_poll_idle_flush :
    run .poll (waiting []) = answered 0 (waiting []) ∧
    run .poll (waiting (frameV3 ++ [0])) =
      answered 0 { State.reset with evq := [.frameFlushRequired], res := 2 } ∧
    (run .poll (waiting (List.replicate 12 0))).rxq = [] := by decide

/-- X3, X7. -/
theorem test_poll_frame :
    (run .poll { car5 3 false with rxq := frameV3 ++ frameV3 }).rxq = frameV3 ∧
    (run .poll { car5 3 false with rxq := frameV3 ++ frameV3 }).res = 1 ∧
    (run .poll { car5 3 false with rxq := frameV3 ++ frameV3 }).evq =
      [.newLap 5 4 990 500 false, .pitEnter 5 990, .trackCall true 0x20, .allCarsOnTrack true 0] ∧
    (run .poll (waiting frameV7)).rspq = [2] ∧ (run .poll (waiting frameV7)).res = 1 ∧
    (run .poll (waiting frameV7)).rxt.frame.id = 21 := by decide

/-- X9, X10, X11 (the aligned bytes are discarded too). -/
theorem test_flush :
    (run .flush (waiting (List.replicate 7 0))).res = 7 ∧ (run .flush (waiting [])).evq = [.frameFlushRequired] ∧
    (run .flush (waiting (frameV3 ++ frameV3))).res = 26 ∧ (run .flush (waiting (frameV3 ++ frameV3))).rxq = [] := by
  decide

/-- X8. -/
theorem test_read_fails :
    run .poll (waitingNoRead frameV3) =
      raise .transport { waitingNoRead frameV3 with evq := [.dongleConnected false] } := by decide

/-- X12, X14. -/
theorem test_rxFw :
    run .rxFw (waiting [0x03, 0x0A, 0, 0, 0]) =
      answered 0 { State.reset with fwv := { valid := true, major := 3, minor := 10 } } ∧
    (run .rxFw (waiting frameV3)).rxq.length = 8 := by decide

/-- X13. -/
theorem test_rxFw_held : run .rxFw (waiting [0x03, 0x0A]) = waiting [0x03, 0x0A] := by decide

/-- On a closed transport every `Read` fails, whatever waits (70_reset_and_hazards.md R253). -/
theorem test_rxFw_closed :
    run .rxFw (waitingNoRead [0x03, 0x0A]) =
      raise .transport { waitingNoRead [0x03, 0x0A] with evq := [.dongleConnected false] } := by decide

/-! ### The step, faults and reset -/

/-- IllegalOpError beats every other fault (60_exceptions.md R226). -/
theorem test_step_illegal :
    step (asked 0x3005000000000001) = .next (worldMove (raise .illegalOp (asked 0x3005000000000001))) := rfl

/-- The word placed by `withFetchWord` is what the first step after reset runs. -/
theorem test_step_fetches :
    step (State.reset.withFetchWord 64 0x1000000000000000) =
      .next (worldMove (answered 0 { State.reset with timer := tmr true 0 0 0 })) := rfl

/-- An outside move: time passes, the dongle appends, the host presents T_START (log 7). -/
theorem test_step_world :
    step { State.reset with world := [{ now := 5000, rx := [1, 2], readOk := false, writeOk := true,
                                        reqs := [⟨0x1000000000000000, []⟩] }] } =
      .next { State.reset with
        now := 5000, rxq := [1, 2], readOk := false, reqs := [⟨0x1000000000000000, []⟩], tick := 1 } := rfl

/-- `now` never decreases and stays below 2^63 (10_state.md R24). -/
theorem test_nextNow :
    nextNow 7 6 = 7 ∧ nextNow 7 8 = 8 ∧ nextNow 7 0x7FFFFFFFFFFFFFFF = 0x7FFFFFFFFFFFFFFF ∧
    nextNow 7 0x8000000000000000 = 7 := by decide

/-- 95_test_vectors.md section 2.8: code 3 on the registers of reset, code 1 on those after it, code 8 on those. -/
theorem test_fault_registers :
    ((raise .notInit State.reset).err, (raise .notInit State.reset).errseen) = (3, 0x0008) ∧
    (raise .frameLength { State.reset with err := 3, errseen := 0x0008 }).errseen = 0x000A ∧
    (raise .unknownCar { State.reset with err := 1, errseen := 0x000A }).errseen = 0x010A ∧
    (run .tStart { State.reset with err := 3, errseen := 0x0008 }).err = 3 := by decide

/-- Reset clears the internal state and keeps the streams (70_reset_and_hazards.md R251). -/
theorem test_resetInternal :
    resetInternal { ready with rxq := [1], rspq := [0], err := 3, errseen := 0x0008 } =
      { State.reset with rxq := [1], rspq := [0], now := 10000000100 } := by decide

/-! ### Witnesses: hypotheses of the statements that some concrete state and operands meet, clause by clause -/

/-- A request word with every operand byte in use, and one with a buffer. -/
theorem test_witness_EncodeOfDecodeIsTheRequest :
    decode ⟨0x050505400003E800, [9]⟩ = .ok (.encCmd 5 5 64 0 3 0xE8) ∧
    decode ⟨0x0100000000000000, [9]⟩ = .ok (.decTel [9]) ∧ decode ⟨0x0200000000000000, []⟩ = .ok (.decFw []) := by decide

/-- An unassigned `op` and a reserved byte. -/
theorem test_witness_RequestsOutsideTheTableAreIllegal :
    (asked 0x0800000000000000).reqs = [⟨0x0800000000000000, []⟩] ∧
    (∀ row ∈ opcodeTable, (0x0800000000000000 : Word64) &&& row.mask ≠ row.wanted) ∧
    (∀ row ∈ opcodeTable, (0x1000000000000001 : Word64) &&& row.mask ≠ row.wanted) := by decide

theorem test_witness_TableRowsDecodeAndAreDisjoint :
    ∃ row ∈ opcodeTable, (0x3701C80101010000 : Word64) &&& row.mask = row.wanted := by decide

theorem test_witness_StepRunsTheDecodedOperation :
    (asked 0x1000000000000000).reqs = [⟨0x1000000000000000, []⟩] ∧
    decode ⟨0x1000000000000000, []⟩ = .ok .tStart ∧
    exec .tStart (asked 0x1000000000000000) = .next (run .tStart (asked 0x1000000000000000)) := ⟨rfl, rfl, rfl⟩

theorem test_witness_IdleBlockOnlyLetsTheWorldMove : State.reset.reqs = [] := rfl

/-- An offered time at the ends of its lawful range. -/
theorem test_witness_WorldMoveObeysTheInputLaws :
    let m : Config.Moment := { now := 0x7FFFFFFFFFFFFFFF, rx := [], readOk := true, writeOk := true, reqs := [] }
    let s : State := { ready with world := [m] }
    s.now.toNat < 2 ^ 63 ∧ s.now.toNat ≤ (nextMoment s).now.toNat ∧ (nextMoment s).now.toNat < 2 ^ 63 := by decide

/-- The bits of `ERRSEEN` at both ends. -/
theorem test_witness_FaultEntryRecordsTheCode : 0 < 16 ∧ 15 < 16 := by decide

/-- An answered operation and the held one. -/
theorem test_witness_EveryRequestGetsOneResponse :
    exec .tStart ready = .next (run .tStart ready) ∧ exec .rxFw (waiting [1, 2, 3, 4]) = .next (waiting [1, 2, 3, 4]) ∧
    (waiting [1, 2, 3, 4]).rxq.length < 5 ∧ (waiting [1, 2, 3, 4]).readOk = true := ⟨rfl, rfl, by decide, rfl⟩

/-- Response 0 and response 8, the largest code. -/
theorem test_witness_FaultRegistersFollowTheResponse :
    exec .tStart State.reset = .next (run .tStart State.reset) ∧
    (run .tStart State.reset).rspq = State.reset.rspq ++ [0] ∧
    exec (.rdCar 0) State.reset = .next (run (.rdCar 0) State.reset) ∧
    (run (.rdCar 0) State.reset).rspq = State.reset.rspq ++ [8] := ⟨rfl, by decide, rfl, by decide⟩

/-- Code 3, and code 2 outside POLL. -/
theorem test_witness_FaultsArePrecise :
    exec .sendStatus State.reset = .next (run .sendStatus State.reset) ∧
    (run .sendStatus State.reset).rspq = State.reset.rspq ++ [3] ∧
    exec (.rdCar 21) State.reset = .next (run (.rdCar 21) State.reset) ∧
    (run (.rdCar 21) State.reset).rspq = State.reset.rspq ++ [2] ∧ (3 : Byte) ≠ 0 ∧ (3 : Byte) ≠ 7 ∧
    ¬(Instr.rdCar 21 = .poll ∧ (2 : Byte) = 2) := ⟨rfl, by decide, rfl, by decide, by decide, by decide, by decide⟩

/-- A failed `Write` and a failed `Read`. -/
theorem test_witness_TransportErrorsMoveNothing :
    exec .sendFree readyNoWrite = .next (run .sendFree readyNoWrite) ∧
    (run .sendFree readyNoWrite).rspq = readyNoWrite.rspq ++ [7] ∧
    exec .flush (waitingNoRead [1]) = .next (run .flush (waitingNoRead [1])) ∧
    (run .flush (waitingNoRead [1])).rspq = (waitingNoRead [1]).rspq ++ [7] := ⟨rfl, by decide, rfl, by decide⟩

/-- One byte short and one byte long. -/
theorem test_witness_DecTelDecodesEveryFrame :
    (List.replicate 12 (0 : Byte)).length ≠ 13 ∧ (List.replicate 14 (0 : Byte)).length ≠ 13 := by decide

theorem test_witness_DecFwKeepsTheFirstTwoBytes :
    (List.replicate 4 (0 : Byte)).length ≠ 5 ∧ (List.replicate 6 (0 : Byte)).length ≠ 5 := by decide

theorem test_witness_UnpackAppliesTheMasks :
    (withFrame frameV3 State.reset).rxt.valid = true ∧ State.reset.rxt.valid = false := by decide

theorem test_witness_EncStatusPutsTheStatusFrame : ready.ctxValid = true := rfl

/-- Ids 0 and 20, selectors 0 and 6. -/
theorem test_witness_EncCmdPutsTheCommandFrame :
    ready.ctxValid = true ∧ (0 : Byte).toNat ≤ 20 ∧ (20 : Byte).toNat ≤ 20 ∧
    ((0 : Byte), CmdOp.noAction) ∈ cmdOpTable ∧ ((6 : Byte), CmdOp.setMinLapTime) ∈ cmdOpTable := by decide

/-- Id 21; id 20 with selector 7. -/
theorem test_witness_CommandChecksComeInOrder :
    ready.ctxValid = true ∧ 20 < (21 : Byte).toNat ∧ (20 : Byte).toNat ≤ 20 ∧ 6 < (7 : Byte).toNat := by decide

theorem test_witness_ContextReadersNeedInit : State.reset.ctxValid = false := rfl

theorem test_witness_CommandFrameSlotsAreExclusive : (0 : Byte) = 0 ∧ (1 : Byte) ≠ 0 := by decide

/-- A running timer and one that is not. -/
theorem test_witness_TStartArmsTheTimer : ready.timer.running = true ∧ State.reset.timer.running = false := by decide

theorem test_witness_TPauseFoldsTheElapsedTime : ready.timer.running = true ∧ State.reset.timer.running = false := by decide

theorem test_witness_TStopFoldsEverything : ready.timer.running = true ∧ State.reset.timer.running = false := by decide

/-- The three cases of T_RESUME: running, nothing accumulated, paused. -/
theorem test_witness_TResumeRearmsAPausedTimer :
    ready.timer.running = true ∧ State.reset.timer.pacc = 0 ∧ (timed (tmr false 5000 1 0) 6000).timer.running = false ∧
    (timed (tmr false 5000 1 0) 6000).timer.pacc ≠ 0 := by decide

/-- Each of the three timer states meets the invariant. -/
theorem test_witness_TimerStatesFollowTheTransitionTable :
    TimerOk ready.timer ready.now ∧ TimerOk (tmr false 5000 30000000000 0) 40000000000 ∧
    TimerOk (tmr false 50000000000 0 42000000000) 70000000000 ∧ exec .tPause ready = .next (run .tPause ready) ∧
    exec .tResume ready = .next (run .tResume ready) ∧ exec .tStart ready = .next (run .tStart ready) ∧
    exec .tStop ready = .next (run .tStop ready) :=
  ⟨by decide, by decide, by decide, rfl, rfl, rfl, rfl⟩

theorem test_witness_TimerReadingIsMonotoneAndNeverWraps :
    TimerOk (tmr true 100 0 0) 10000000100 ∧ (10000000100 : Word64).toNat ≤ (0x7FFFFFFFFFFFFFFF : Word64).toNat ∧
    (0x7FFFFFFFFFFFFFFF : Word64).toNat < 2 ^ 63 ∧ (tmr true 100 0 0).running = true := by decide

theorem test_witness_PausedTimerReadsZeroAndContinues :
    TimerOk (tmr true 100 0 0) 10000000100 ∧ (tmr true 100 0 0).running = true ∧
    timerValue (tmr true 100 0 0) 10000000100 ≠ 0 ∧ (10000000100 : Word64).toNat ≤ (10000000100 : Word64).toNat := by decide

/-- A frame in `RXT` for a slot, known or not. -/
theorem test_witness_UpdateDiffsReplacesAndAggregates :
    (withFrame frameV3 (car5 3 false)).rxt.valid = true ∧
    (withFrame frameV3 (car5 3 false)).rxt.frame.id.toNat = (5 : Fin 21).val ∧
    (withFrame (List.replicate 13 0) State.reset).rxt.frame.id.toNat = (0 : Fin 21).val := by decide

theorem test_witness_UpdateFaultsChangeNoSlot :
    State.reset.rxt.valid = false ∧ (withFrame frameV7 State.reset).rxt.valid = true ∧
    20 < (withFrame frameV7 State.reset).rxt.frame.id.toNat := by decide

/-- Id 21; a known car and an unknown one, ids 5 and 20. -/
theorem test_witness_RdCarReadsAKnownSlot :
    20 < (21 : Byte).toNat ∧ (5 : Byte).toNat = (5 : Fin 21).val ∧ (car5 3 false).cars[(5 : Fin 21)].known = true ∧
    (20 : Byte).toNat = (20 : Fin 21).val ∧ (car5 3 false).cars[(20 : Fin 21)].known = false := by decide

theorem test_witness_KnownCarsOnlyGrow :
    step (car5 3 false) = .next (worldMove (car5 3 false)) ∧ (car5 3 false).cars[(5 : Fin 21)].known = true :=
  ⟨rfl, by decide⟩

theorem test_witness_SlotsAreReplacedWholesaleByUpdateAlone :
    exec .tStart ready = .next (run .tStart ready) ∧ Instr.tStart ≠ .update ∧ Instr.tStart ≠ .poll ∧
    exec .update (withFrame frameV3 (car5 3 false)) = .next (run .update (withFrame frameV3 (car5 3 false))) :=
  ⟨rfl, by decide, by decide, rfl⟩

/-- The first and the last selector of each table. -/
theorem test_witness_InitWritesTheWholeContext :
    ((0 : Byte), RaceState.stopped) ∈ raceStateTable ∧ ((4 : Byte), RaceState.flaggedNolc) ∈ raceStateTable ∧
    ((0 : Byte), PitTrigger.enter) ∈ trigTable ∧ ((1 : Byte), PitTrigger.leave) ∈ trigTable ∧
    ((0 : Byte), PitCount.disabled) ∈ countTable ∧ ((1 : Byte), PitCount.enabled) ∈ countTable ∧
    ((0 : Byte), PowerMode.triggerPosition) ∈ modeTable ∧ ((1 : Byte), PowerMode.pwm) ∈ modeTable := by decide

/-- The first selector past the legal set (for INIT and SET_CONFIG as well). -/
theorem test_witness_SetStateChecksItsSelector :
    4 < (5 : Byte).toNat ∧ 1 < (2 : Byte).toNat ∧ ready.ctxValid = true := by decide

theorem test_witness_SetConfigWritesWithoutSending :
    ready.ctxValid = true ∧ State.reset.ctxValid = false ∧ 1 < (2 : Byte).toNat ∧ ((0 : Byte), PitTrigger.enter) ∈ trigTable ∧ ((1 : Byte), PitCount.enabled) ∈ countTable ∧
    ((1 : Byte), PowerMode.pwm) ∈ modeTable := by decide

/-- A `Write` that succeeds and one that fails. -/
theorem test_witness_SetStateAndSetSpeedMutateThenSend :
    ready.ctxValid = true ∧ ((4 : Byte), RaceState.flaggedNolc) ∈ raceStateTable ∧ ready.writeOk = true ∧
    readyNoWrite.ctxValid = true ∧ readyNoWrite.writeOk = false := by decide

theorem test_witness_SendStatusTransmitsTheStatusFrame :
    ready.ctxValid = true ∧ ready.writeOk = true ∧ readyNoWrite.ctxValid = true ∧ readyNoWrite.writeOk = false ∧
    State.reset.ctxValid = false := by decide

theorem test_witness_SendCmdTransmitsTheCommandFrame :
    ready.ctxValid = true ∧ (20 : Byte).toNat ≤ 20 ∧ ((6 : Byte), CmdOp.setMinLapTime) ∈ cmdOpTable ∧
    ready.writeOk = true ∧ readyNoWrite.writeOk = false := by decide

theorem test_witness_LiteralFramesNeedNoContext : State.reset.writeOk = true ∧ readyNoWrite.writeOk = false := by decide

/-- Nothing waiting; 12 and 14 bytes; 13 bytes and a failing `Read`. -/
theorem test_witness_PollIdlesOrFlushes :
    (waiting []).rxq = [] ∧ (waiting (List.replicate 12 0)).rxq.length % 13 ≠ 0 ∧
    (waiting (List.replicate 14 0)).rxq.length % 13 ≠ 0 ∧ (waiting (List.replicate 14 0)).readOk = true ∧
    (waitingNoRead frameV3).rxq ≠ [] ∧ (waitingNoRead frameV3).readOk = false := by decide

/-- One frame and two; a frame with id 5 and one with id 21. -/
theorem test_witness_PollTakesOneFrameAndUpdates :
    (waiting frameV3).rxq = frameV3 ++ [] ∧ (waiting (frameV7 ++ frameV3)).rxq = frameV7 ++ frameV3 ∧
    frameV3.length = 13 ∧ frameV7.length = 13 ∧ ([] : List Byte).length % 13 = 0 ∧ frameV3.length % 13 = 0 ∧
    (waiting frameV3).readOk = true := by decide

theorem test_witness_FlushDiscardsEverything :
    (waiting []).rxq = [] ∧ (waiting [1]).readOk = true ∧ (waiting [1]).rxq.length < 2 ^ 64 ∧ (waitingNoRead [1]).rxq ≠ [] ∧
    (waitingNoRead [1]).readOk = false := by decide

/-- Exactly five bytes; a failing `Read` with five bytes and with none. -/
theorem test_witness_RxFwTakesFiveBytes :
    (waiting [1, 2, 3, 4, 5]).rxq = [1, 2, 3, 4, 5] ∧ (waiting [1, 2, 3, 4, 5]).readOk = true ∧
    (waitingNoRead [1, 2, 3, 4, 5]).readOk = false ∧ (waitingNoRead []).readOk = false := by decide

/-- A closed transport, and an operation on it. -/
theorem test_witness_ClosedTransportMovesNothing :
    let s : State := { waitingNoRead [1] with writeOk := false }
    s.readOk = false ∧ s.writeOk = false ∧ exec .rxFw s = .next (run .rxFw s) := ⟨rfl, rfl, rfl⟩

/-- Four bytes. -/
theorem test_witness_RxFwIsHeldWhileBytesAreMissing :
    ({ waiting [1, 2, 3, 4] with reqs := [⟨0x4200000000000000, []⟩] } : State).reqs = [⟨0x4200000000000000, []⟩] ∧
    decode ⟨0x4200000000000000, []⟩ = .ok .rxFw ∧ (waiting [1, 2, 3, 4]).rxq.length < 5 ∧
    (waiting [1, 2, 3, 4]).readOk = true := by decide

/-- INIT changes all three parts of the context of reset. -/
theorem test_witness_ContextIsWrittenByItsOwnersAlone :
    exec (.init 1 200 1 1 1) State.reset = .next (run (.init 1 200 1 1 1) State.reset) ∧
    (run (.init 1 200 1 1 1) State.reset).rs ≠ State.reset.rs ∧
    (run (.init 1 200 1 1 1) State.reset).sc ≠ State.reset.sc ∧
    (run (.init 1 200 1 1 1) State.reset).ctxValid ≠ State.reset.ctxValid := ⟨rfl, by decide, by decide, by decide⟩

/-- Two states that agree on the timer and on `now` and on little else. -/
theorem test_witness_TimerAndRaceStateAreIndependent :
    exec .sendStatus ready = .next (run .sendStatus ready) ∧ Instr.sendStatus ∉ [Instr.tStart, .tPause, .tResume, .tStop] ∧
    exec .tPause ready = .next (run .tPause ready) ∧
    exec .tPause { readyNoWrite with rs := { state := .stopped, speed := 0 } } =
      .next (run .tPause { readyNoWrite with rs := { state := .stopped, speed := 0 } }) := ⟨rfl, by decide, rfl, rfl⟩

theorem test_witness_WrittenFrameIsTheOneInTxb :
    exec .sendFree ready = .next (run .sendFree ready) ∧ (run .sendFree ready).txq ≠ ready.txq := ⟨rfl, by decide⟩

theorem test_witness_EventsAreOnlyAppended :
    step (asked 0x4100000000000000) = .next (worldMove (run .flush (asked 0x4100000000000000))) ∧
    (run .flush (asked 0x4100000000000000)).evq = [.frameFlushRequired] := ⟨rfl, by decide⟩

/-- Each result register changed by one of its writers. -/
theorem test_witness_ResultRegistersHaveTheirWriters :
    exec (.decTel frameV3) State.reset = .next (run (.decTel frameV3) State.reset) ∧
    (run (.decTel frameV3) State.reset).rxt ≠ State.reset.rxt ∧
    (run (.decFw [1, 2, 3, 4, 5]) State.reset).fwv ≠ State.reset.fwv ∧
    (run (.rdCar 5) (car5 3 false)).csr ≠ (car5 3 false).csr ∧ (run .tBytes ready).res ≠ ready.res ∧
    (run .encFree State.reset).txb ≠ State.reset.txb :=
  ⟨rfl, by decide, by decide, by decide, by decide, by decide⟩

/-- A receive operation and another one. -/
theorem test_witness_ReceivePathOnlyReceives :
    exec .poll (waiting frameV3) = .next (run .poll (waiting frameV3)) ∧ Instr.poll ∈ [Instr.poll, .flush, .rxFw] ∧
    exec .tStart ready = .next (run .tStart ready) ∧ Instr.tStart ∉ [Instr.poll, .flush, .rxFw] :=
  ⟨rfl, by decide, rfl, by decide⟩

/-- A state with a known car, a running timer and a fault seen, and a step from it. -/
theorem test_witness_EveryStepKeepsTheInvariant :
    let s : State := { ready with cars := (car5 3 false).cars, err := 3, errseen := 0x0008 }
    Inv s ∧ step s = .next (worldMove s) := ⟨by decide, rfl⟩

end Sys2Proof.Tests
end

section
/-! The pieces of the state and the operations that write them: `Instr.writes` lists, per operation, the registers and
streams it may change, and `exec_keeps` says once that no operation changes any other piece. The fault registers, the
events, the responses and the requests, which any operation may change, are no pieces; the faults have `exec_ended`. -/

namespace Sys2Proof.Machine

open Sys2Proof

/-- The pieces of the state that have operations of their own as writers (10_state.md R20, R42), and the time input. -/
inductive Piece where
  | timer | ctxValid | rs | sc | cars | rxt | fwv | csr | txb | res | rxq | txq | now
deriving DecidableEq

/-- What a piece holds. -/
def Piece.Value : Piece → Type
  | .timer => Timer
  | .ctxValid => Bool
  | .rs => RaceStatus
  | .sc => SystemConfig
  | .cars => Vector Slot 21
  | .rxt => RxtReg
  | .fwv => FwvReg
  | .csr => CsrReg
  | .txb => TxbReg
  | .res => Word64
  | .rxq => List Byte
  | .txq => List Frame
  | .now => Word64

/-- The contents of a piece. -/
def State.piece (s : State) : (p : Piece) → p.Value
  | .timer => s.timer
  | .ctxValid => s.ctxValid
  | .rs => s.rs
  | .sc => s.sc
  | .cars => s.cars
  | .rxt => s.rxt
  | .fwv => s.fwv
  | .csr => s.csr
  | .txb => s.txb
  | .res => s.res
  | .rxq => s.rxq
  | .txq => s.txq
  | .now => s.now

/-- The pieces an operation may write (10_state.md R25, R26, R32, R35 to R39; 20_memory.md R51, R52). -/
def writes : Instr → List Piece
  | .decTel _ => [.rxt]
  | .decFw _ => [.fwv]
  | .unpack | .rdCar _ => [.csr]
  | .encStatus _ _ _ | .encCmd _ _ _ _ _ _ | .encFwreq | .encFree => [.txb]
  | .tStart | .tPause | .tResume | .tStop => [.timer]
  | .tValue | .tValueCs | .tBytes => [.res]
  | .update => [.cars]
  | .setState _ | .setSpeed _ => [.rs, .txb, .txq]
  | .setConfig _ _ _ => [.sc]
  | .sendStatus | .sendCmd _ _ _ | .sendFwreq | .sendFree => [.txb, .txq]
  | .init _ _ _ _ _ => [.ctxValid, .rs, .sc]
  | .poll => [.cars, .rxt, .res, .rxq]
  | .flush => [.res, .rxq]
  | .rxFw => [.fwv, .rxq]

/-! ### What each shared operation leaves alone -/

section
variable {p : Piece} (s : State)

@[simp] theorem piece_complete : (complete s).piece p = s.piece p := by cases p <;> rfl

@[simp] theorem piece_raise (f : FaultCode) : (raise f s).piece p = s.piece p := by cases p <;> rfl

@[simp] theorem piece_notRead : (notRead s).piece p = s.piece p := by cases p <;> rfl

@[simp] theorem piece_setTimer (r : Timer) (h : p ≠ .timer) : (setTimer r s).piece p = s.piece p := by
  cases p
  case timer => contradiction
  all_goals rfl

@[simp] theorem piece_setCtxValid (v : Bool) (h : p ≠ .ctxValid) : (setCtxValid v s).piece p = s.piece p := by
  cases p
  case ctxValid => contradiction
  all_goals rfl

@[simp] theorem piece_setRs (r : RaceStatus) (h : p ≠ .rs) : (setRs r s).piece p = s.piece p := by
  cases p
  case rs => contradiction
  all_goals rfl

@[simp] theorem piece_setSc (c : SystemConfig) (h : p ≠ .sc) : (setSc c s).piece p = s.piece p := by
  cases p
  case sc => contradiction
  all_goals rfl

@[simp] theorem piece_setRxt (f : RxTel) (h : p ≠ .rxt) : (setRxt f s).piece p = s.piece p := by
  cases p
  case rxt => contradiction
  all_goals rfl

@[simp] theorem piece_setFwv (a b : Byte) (h : p ≠ .fwv) : (setFwv a b s).piece p = s.piece p := by
  cases p
  case fwv => contradiction
  all_goals rfl

@[simp] theorem piece_setCsr (c : CarState) (h : p ≠ .csr) : (setCsr c s).piece p = s.piece p := by
  cases p
  case csr => contradiction
  all_goals rfl

@[simp] theorem piece_setTxb (f : Frame) (h : p ≠ .txb) : (setTxb f s).piece p = s.piece p := by
  cases p
  case txb => contradiction
  all_goals rfl

@[simp] theorem piece_setRes (v : Word64) (h : p ≠ .res) : (setRes v s).piece p = s.piece p := by
  cases p
  case res => contradiction
  all_goals rfl

@[simp] theorem piece_updateSlot (b : Bool) (i : Fin 21) (c : CarState) (h : p ≠ .cars) :
    (updateSlot b i c s).piece p = s.piece p := by
  cases p
  case cars => contradiction
  all_goals rfl

@[simp] theorem piece_drop_rxq (n : Nat) (h : p ≠ .rxq) :
    ({ s with rxq := s.rxq.drop n } : State).piece p = s.piece p := by
  cases p
  case rxq => contradiction
  all_goals rfl

/-- A flush, as POLL and FLUSH answer it. -/
theorem piece_flushed (es : List Event) (v : Word64) (h₁ : p ≠ .res) (h₂ : p ≠ .rxq) :
    (answered 0 { s with rxq := [], evq := es, res := v }).piece p = s.piece p := by
  cases p
  case res | rxq => contradiction
  all_goals rfl

end

section
variable {p : Piece} {s u t : State}

theorem PreciseFault.piece (h : PreciseFault s t) : t.piece p = s.piece p := by
  obtain ⟨f, -, rfl⟩ := h
  exact piece_raise s f

theorem Transmitted.piece (h : Transmitted u t) (h₁ : p ≠ .txb) (h₂ : p ≠ .txq) : t.piece p = u.piece p := by
  obtain ⟨f, ⟨-, rfl⟩ | ⟨-, rfl⟩⟩ := h <;> cases p
  case inl.txb | inl.txq | inr.txb | inr.txq => contradiction
  all_goals rfl

theorem UpdateEffect.piece (h : UpdateEffect s t) (hp : p ≠ .cars) : t.piece p = s.piece p := by
  obtain f | ⟨i, -, -, rfl⟩ := h
  · exact f.piece
  · rw [piece_complete, piece_updateSlot s _ _ _ hp]

/-- No operation changes a piece it is not a writer of. -/
theorem exec_keeps {i : Instr} (h : exec i s = .next t) (hp : p ∉ writes i) : t.piece p = s.piece p := by
  have e := exec_effect h
  cases i <;> simp only [ExecEffect, writes, List.mem_cons, List.not_mem_nil, or_false, not_or] at e hp
  case tStart | tPause | tResume | tStop => simp [e, hp]
  case encFwreq | encFree | tValue | tValueCs | tBytes =>
    obtain ⟨_, rfl⟩ := e
    simp [hp]
  case sendFwreq | sendFree => exact e.piece hp.1 hp.2
  case update => exact UpdateEffect.piece e hp
  case poll =>
    obtain ⟨cars, rxt, res, rxq⟩ := hp
    obtain ⟨-, rfl⟩ | ⟨-, rfl⟩ | ⟨-, rfl⟩ | ⟨f, -, -, -, rfl⟩ := e
    · simp [res]
    · simp
    · exact piece_flushed s _ _ res rxq
    · rw [(update_effect _).piece cars]
      simp [rxt, res, rxq]
  case flush =>
    obtain ⟨-, rfl⟩ | ⟨v, -, rfl⟩ := e
    · simp
    · exact piece_flushed s _ _ hp.1 hp.2
  case rxFw =>
    obtain ⟨-, -, rfl⟩ | ⟨-, rfl⟩ | ⟨a, b, -, -, rfl⟩ := e <;> simp [hp]
  all_goals obtain f | e := e; exact f.piece
  case decTel | unpack | rdCar =>
    obtain ⟨_, _, rfl⟩ := e
    simp [hp]
  case decFw =>
    obtain ⟨_, _, rfl⟩ := e
    simp [hp]
  case encStatus | encCmd | setConfig =>
    obtain ⟨_, rfl⟩ := e
    simp [hp]
  case setState | setSpeed =>
    obtain ⟨rs, txb, txq⟩ := hp
    obtain ⟨r, sent⟩ := e
    rw [sent.piece txb txq, piece_setRs s r rs]
  case sendStatus | sendCmd => exact e.piece hp.1 hp.2
  case init =>
    obtain ⟨_, _, rfl⟩ := e
    simp [hp]

/-- A piece that changed has the operation among its writers. -/
theorem writes_of_changed {i : Instr} (h : exec i s = .next t) (p : Piece) (changed : t.piece p ≠ s.piece p) :
    p ∈ writes i :=
  not_imp_comm.mp (exec_keeps h) changed

end

end Sys2Proof.Machine
end

section
/-! What each operation does write: its answer and the fault registers (10_state.md R40), the frame it transmits
(44_builder.md R189), the slots (43_registry.md R165) and the result registers that hold a record (10_state.md R35, R37). -/

namespace Sys2Proof.Machine

open Sys2Proof

variable {i : Instr} {s t u : State}

/-! ### The answer and the fault registers -/

/-- The operation completed: response 0, the fault registers as before (10_state.md R40, 30_encoding.md R87). -/
structure Completed (s t : State) : Prop where
  err : t.err = s.err
  errseen : t.errseen = s.errseen
  rspq : t.rspq = s.rspq ++ [0]

/-- The operation ended in the fault `f` (10_state.md R40, 60_exceptions.md R225). -/
structure Faulted (f : FaultCode) (s t : State) : Prop where
  err : t.err = codeOf f
  errseen : t.errseen = s.errseen ||| (1#16 <<< (codeOf f).toNat)
  rspq : t.rspq = s.rspq ++ [codeOf f]

/-- The operation completed or ended in a fault. -/
def Ended (s t : State) : Prop := Completed s t ∨ ∃ f, Faulted f s t

/-- How an operation ended depends on where it started only by the fault registers and the responses. -/
theorem Ended.of_eq (h : Ended u t) (he : u.err = s.err) (hs : u.errseen = s.errseen) (hr : u.rspq = s.rspq) :
    Ended s t := by
  obtain ⟨err, errseen, rspq⟩ | ⟨f, err, errseen, rspq⟩ := h <;> rw [hs] at errseen <;> rw [hr] at rspq
  · exact .inl ⟨err.trans he, errseen, rspq⟩
  · exact .inr ⟨f, err, errseen, rspq⟩

theorem faulted_raise (f : FaultCode) (s : State) : Faulted f s (raise f s) := ⟨rfl, rfl, rfl⟩

theorem ended_notRead (s : State) : Ended s (notRead s) := .inr ⟨.transport, rfl, rfl, rfl⟩

theorem PreciseFault.ended (h : PreciseFault s t) : Ended s t := by
  obtain ⟨f, -, rfl⟩ := h
  exact .inr ⟨f, faulted_raise f s⟩

theorem Transmitted.ended (h : Transmitted u t) : Ended u t := by
  obtain ⟨f, ⟨-, rfl⟩ | ⟨-, rfl⟩⟩ := h
  · exact .inl ⟨rfl, rfl, rfl⟩
  · exact .inr ⟨.transport, rfl, rfl, rfl⟩

theorem UpdateEffect.ended (h : UpdateEffect s t) : Ended s t := by
  obtain f | ⟨i, -, -, rfl⟩ := h
  · exact f.ended
  · exact .inl ⟨rfl, rfl, rfl⟩

/-- Every operation is answered, but a held RX_FW, which changes nothing (45_rxpath.md R204). -/
theorem exec_ended (h : exec i s = .next t) : t = s ∨ Ended s t := by
  have e := exec_effect h
  cases i <;> simp only [ExecEffect] at e
  case rxFw =>
    obtain ⟨-, -, rfl⟩ | ⟨-, rfl⟩ | ⟨a, b, -, -, rfl⟩ := e
    · exact .inl rfl
    · exact .inr (ended_notRead s)
    · exact .inr (.inl ⟨rfl, rfl, rfl⟩)
  all_goals right
  case tStart | tPause | tResume | tStop =>
    subst e
    exact .inl ⟨rfl, rfl, rfl⟩
  case encFwreq | encFree | tValue | tValueCs | tBytes =>
    obtain ⟨_, rfl⟩ := e
    exact .inl ⟨rfl, rfl, rfl⟩
  case sendFwreq | sendFree => exact e.ended
  case update => exact e.ended
  case poll =>
    obtain ⟨-, rfl⟩ | ⟨-, rfl⟩ | ⟨-, rfl⟩ | ⟨f, -, -, -, rfl⟩ := e
    · exact .inl ⟨rfl, rfl, rfl⟩
    · exact ended_notRead s
    · exact .inl ⟨rfl, rfl, rfl⟩
    · exact (update_effect _).ended.of_eq rfl rfl rfl
  case flush =>
    obtain ⟨-, rfl⟩ | ⟨v, -, rfl⟩ := e
    · exact ended_notRead s
    · exact .inl ⟨rfl, rfl, rfl⟩
  all_goals obtain f | e := e; exact f.ended
  case decTel | decFw | unpack | rdCar | init =>
    obtain ⟨_, _, rfl⟩ := e
    exact .inl ⟨rfl, rfl, rfl⟩
  case encStatus | encCmd | setConfig =>
    obtain ⟨_, rfl⟩ := e
    exact .inl ⟨rfl, rfl, rfl⟩
  case setState | setSpeed =>
    obtain ⟨r, sent⟩ := e
    exact sent.ended.of_eq rfl rfl rfl
  case sendStatus | sendCmd => exact e.ended

theorem codeOf_pos (f : FaultCode) : codeOf f ≠ 0 := by cases f <;> decide

theorem codeOf_le (f : FaultCode) : (codeOf f).toNat ≤ 8 := by cases f <;> decide

/-- Which bits of `ERRSEEN` are set after a fault. -/
theorem Faulted.getLsbD_errseen {f : FaultCode} (h : Faulted f s t) (j : Nat) :
    t.errseen.getLsbD j = (s.errseen.getLsbD j || decide (j = (codeOf f).toNat)) := by
  have := codeOf_le f
  rw [h.errseen, BitVec.getLsbD_or, ← BitVec.twoPow_eq, BitVec.getLsbD_twoPow]
  simp only [decide_eq_true (show (codeOf f).toNat < 16 by omega), Bool.true_and, eq_comm]

/-! ### The frame transmitted -/

/-- The operations that write `TXQ` do so by one TRANSMIT, after at most a write of RaceStatus (44_builder.md R180). -/
theorem exec_transmits (h : exec i s = .next t) (hw : .txq ∈ writes i) :
    PreciseFault s t ∨ ∃ r, Transmitted (setRs r s) t := by
  have e := exec_effect h
  cases i <;> simp [writes] at hw
  case setState | setSpeed => exact e
  case sendStatus | sendCmd => exact e.imp_right fun sent => ⟨s.rs, sent⟩
  case sendFwreq | sendFree => exact .inr ⟨s.rs, e⟩

/-- `TXB` is as before or holds a frame. -/
theorem exec_txb (h : exec i s = .next t) : t.txb = s.txb ∨ t.txb.valid = true := by
  by_cases hw : .txb ∈ writes i
  case neg => exact .inl (exec_keeps h (p := .txb) hw)
  have e := exec_effect h
  by_cases hq : .txq ∈ writes i
  · obtain ⟨f, -, rfl⟩ | ⟨r, f, ⟨-, rfl⟩ | ⟨-, rfl⟩⟩ := exec_transmits h hq
    · exact .inl rfl
    · exact .inr rfl
    · exact .inr rfl
  · cases i <;> simp [writes] at hw hq
    case encStatus | encCmd =>
      obtain ⟨f, -, rfl⟩ | ⟨f, rfl⟩ := e
      · exact .inl rfl
      · exact .inr rfl
    case encFwreq | encFree =>
      obtain ⟨f, rfl⟩ := e
      exact .inr rfl

/-! ### The slots -/

/-- Slot `j` holds the record of the frame in `RXT`, which has its id (43_registry.md R165). -/
structure HoldsFrame (j : Fin 21) (t : State) : Prop where
  valid : t.rxt.valid = true
  id : t.rxt.frame.id.toNat = j.val
  slot : t.cars[j] = { known := true, car := unpackFrame t.rxt.frame }

theorem UpdateEffect.slot (h : UpdateEffect s t) (j : Fin 21) : t.cars[j] = s.cars[j] ∨ HoldsFrame j t := by
  obtain ⟨f, -, rfl⟩ | ⟨i, hv, hid, rfl⟩ := h
  · exact .inl rfl
  · by_cases hj : i = j
    · subst hj
      exact .inr ⟨hv, hid, by simp [updateSlot]⟩
    · left
      simp [updateSlot, Vector.getElem_set_ne, Fin.val_ne_of_ne hj]

/-- A slot is as before or holds the record of the frame in `RXT`. -/
theorem exec_slot (h : exec i s = .next t) (j : Fin 21) : t.cars[j] = s.cars[j] ∨ HoldsFrame j t := by
  by_cases hw : .cars ∈ writes i
  case neg =>
    have hc : t.cars = s.cars := exec_keeps h (p := .cars) hw
    exact .inl (by rw [hc])
  have e := exec_effect h
  cases i <;> simp [writes] at hw
  case update => exact UpdateEffect.slot e j
  case poll =>
    obtain ⟨-, rfl⟩ | ⟨-, rfl⟩ | ⟨-, rfl⟩ | ⟨f, -, -, -, rfl⟩ := e
    · exact .inl rfl
    · exact .inl rfl
    · exact .inl rfl
    · exact (update_effect _).slot j

/-- A known car stays known (10_state.md R34). -/
theorem exec_known (h : exec i s = .next t) {j : Fin 21} (hk : s.cars[j].known = true) : t.cars[j].known = true := by
  obtain same | new := exec_slot h j
  · rw [same, hk]
  · rw [new.slot]

/-! ### The result registers that hold a record -/

theorem decodeTelemetry_tsOk {l : List Byte} {f : RxTel} (h : decodeTelemetry l = some f) : TsOk f.ts := by
  unfold decodeTelemetry at h
  split at h
  next b0 b1 b2 b3 b4 b5 b6 b7 b8 b9 b10 b11 b12 =>
    cases h
    have := b4.isLt
    have := b10.isLt
    have := b11.isLt
    have := b12.isLt
    simp only [TsOk, timestamp_toInt]
    omega
  next => cases h

/-- `RXT` is as before or holds a frame decoded from bytes, whose timestamp is in range (40_codec_rx.md R103). -/
theorem exec_rxt (h : exec i s = .next t) : t.rxt = s.rxt ∨ TsOk t.rxt.frame.ts := by
  by_cases hw : .rxt ∈ writes i
  case neg => exact .inl (exec_keeps h (p := .rxt) hw)
  have e := exec_effect h
  cases i <;> simp [writes] at hw
  case decTel =>
    obtain ⟨f, -, rfl⟩ | ⟨f, hf, rfl⟩ := e
    · exact .inl rfl
    · exact .inr (decodeTelemetry_tsOk hf)
  case poll =>
    obtain ⟨-, rfl⟩ | ⟨-, rfl⟩ | ⟨-, rfl⟩ | ⟨f, -, -, hf, rfl⟩ := e
    · exact .inl rfl
    · exact .inl rfl
    · exact .inl rfl
    · right
      rw [show (update _).rxt = _ from (update_effect _).piece (p := .rxt) nofun]
      exact decodeTelemetry_tsOk hf

/-- `CSR` is as before, or holds the record of the frame in `RXT` or of a known car. -/
theorem exec_csr (h : exec i s = .next t) :
    t.csr = s.csr ∨ (s.rxt.valid = true ∧ t.csr.car = unpackFrame s.rxt.frame) ∨
      ∃ j : Fin 21, s.cars[j].known = true ∧ t.csr.car = s.cars[j].car := by
  by_cases hw : .csr ∈ writes i
  case neg => exact .inl (exec_keeps h (p := .csr) hw)
  have e := exec_effect h
  cases i <;> simp [writes] at hw
  case unpack =>
    obtain ⟨f, -, rfl⟩ | ⟨hv, rfl⟩ := e
    · exact .inl rfl
    · exact .inr (.inl ⟨hv, rfl⟩)
  case rdCar =>
    obtain ⟨f, -, rfl⟩ | ⟨j, hk, rfl⟩ := e
    · exact .inl rfl
    · exact .inr (.inr ⟨j, hk, rfl⟩)

end Sys2Proof.Machine
end

section
/-! The invariant, part by part: what time does to the timer's registers, what the four timer operations do to them, and
what every operation and the outside world's move do to each part of `Inv`. -/

namespace Sys2Proof.Machine

open Sys2Proof

/-! ### The timer -/

section
variable {t : Timer} {now : Word64}

/-- A later `now` keeps the timer consistent. -/
theorem TimerOk.mono (h : TimerOk t now) {later : Word64} (le : now.toNat ≤ later.toNat) : TimerOk t later := by
  obtain ⟨hsacc, hrun, hidle, hle⟩ := h
  exact ⟨hsacc, fun r => ⟨(hrun r).1.trans le, (hrun r).2⟩, fun r => (hidle r).trans le, hle.trans le⟩

/-- The time a running timer has accumulated: neither the difference nor the sum wraps (42_timer.md R141). -/
theorem elapsed_toNat (hs : t.start.toNat ≤ now.toNat) (hp : t.pacc.toNat ≤ t.start.toNat) :
    (t.pacc + (now - t.start)).toNat = t.pacc.toNat + (now.toNat - t.start.toNat) := by
  have := now.isLt
  rw [BitVec.toNat_add, BitVec.toNat_sub_of_le (BitVec.le_def.mpr hs), Nat.mod_eq_of_lt]
  omega

theorem timerStart_ok (h : TimerOk t now) : TimerOk (timerStart t now) now := by
  unfold timerStart
  split
  next => exact h
  next r =>
    obtain ⟨-, -, hidle, -⟩ := h
    simpa [TimerOk] using hidle (Bool.eq_false_of_not_eq_true r)

theorem timerPause_ok (h : TimerOk t now) : TimerOk (timerPause t now) now := by
  unfold timerPause
  split
  next r =>
    obtain ⟨hsacc, hrun, -, hle⟩ := h
    obtain ⟨hs, hp⟩ := hrun r
    refine ⟨fun _ => hsacc (.inl r), nofun, fun _ => ?_, hle⟩
    rw [elapsed_toNat hs hp]
    omega
  next => exact h

theorem timerResume_ok (h : TimerOk t now) : TimerOk (timerResume t now) now := by
  unfold timerResume
  split
  next r =>
    obtain ⟨hsacc, -, hidle, hle⟩ := h
    exact ⟨fun _ => hsacc (.inr r.2), fun _ => ⟨le_refl _, hidle r.1⟩, nofun, hle⟩
  next => exact h

theorem timerStop_ok (h : TimerOk t now) : TimerOk (timerStop t now) now := by
  obtain ⟨hsacc, hrun, hidle, hle⟩ := h
  suffices stopped : (timerStop t now).sacc.toNat ≤ now.toNat from
    ⟨by simp [timerStop], nofun, by simp [timerStop], stopped⟩
  rcases Bool.eq_false_or_eq_true t.running with r | r
  · obtain ⟨hs, hp⟩ := hrun r
    simp only [timerStop, r, hsacc (.inl r), if_true, BitVec.ofNat_eq_ofNat, BitVec.zero_add,
       elapsed_toNat hs hp]
    omega
  · by_cases idle : t.pacc = 0
    · simpa [timerStop, r, idle] using hle
    · simpa [timerStop, r, hsacc (.inr idle)] using hidle r

end

/-! ### Operations -/

section
variable {i : Instr} {s t : State}

theorem exec_now (h : exec i s = .next t) : t.now = s.now := exec_keeps h (p := .now) (by cases i <;> simp [writes])

theorem exec_timerOk (h : exec i s = .next t) (ok : TimerOk s.timer s.now) : TimerOk t.timer t.now := by
  rw [exec_now h]
  by_cases hw : .timer ∈ writes i
  case neg =>
    rw [show t.timer = s.timer from exec_keeps h (p := .timer) hw]
    exact ok
  have e := exec_effect h
  cases i <;> simp [writes] at hw <;> subst e
  case tStart => exact timerStart_ok ok
  case tPause => exact timerPause_ok ok
  case tResume => exact timerResume_ok ok
  case tStop => exact timerStop_ok ok

theorem exec_resultsOk (h : exec i s = .next t) (cars : RegistryOk s) (ok : ResultsOk s) : ResultsOk t := by
  obtain ⟨rxtOk, csrOk⟩ := ok
  constructor
  · intro hv
    obtain same | new := exec_rxt h
    · rw [same] at hv ⊢
      exact rxtOk hv
    · exact new
  · intro hv
    obtain same | ⟨valid, new⟩ | ⟨j, known, new⟩ := exec_csr h
    · rw [same] at hv ⊢
      exact csrOk hv
    · rw [new]
      exact rxtOk valid
    · rw [new]
      exact (cars j known).2

theorem exec_registryOk (h : exec i s = .next t) (ok : RegistryOk s) (results : ResultsOk t) : RegistryOk t := by
  intro j hk
  obtain same | new := exec_slot h j
  · rw [same] at hk ⊢
    exact ok j hk
  · rw [new.slot]
    exact ⟨new.id, results.1 new.valid⟩

theorem Faulted.faultRegsOk {f : FaultCode} (h : Faulted f s t) (ok : FaultRegsOk s) : FaultRegsOk t := by
  obtain ⟨-, -, -, bits⟩ := ok
  rw [FaultRegsOk, h.getLsbD_errseen, h.err, h.errseen]
  refine ⟨codeOf_le f, fun _ => by simp, fun none => absurd none (codeOf_pos f), ?_⟩
  rw [BitVec.and_or_distrib_right, bits]
  cases f <;> decide

theorem exec_faultRegsOk (h : exec i s = .next t) (ok : FaultRegsOk s) : FaultRegsOk t := by
  obtain rfl | done | ⟨f, fault⟩ := exec_ended h
  · exact ok
  · rw [FaultRegsOk, done.err, done.errseen]
    exact ok
  · exact fault.faultRegsOk ok

/-- An operation that transmitted a frame leaves it in `TXB`, with the one event of the transmission (R38, R189). -/
theorem exec_txq (h : exec i s = .next t) :
    t.txq = s.txq ∨
    ∃ f : Frame, t.txq = s.txq ++ [f] ∧ t.txb = { valid := true, b := f } ∧ t.evq = s.evq ++ [.transmitReady f] := by
  by_cases hw : .txq ∈ writes i
  case neg => exact .inl (exec_keeps h (p := .txq) hw)
  obtain ⟨f, -, rfl⟩ | ⟨r, f, ⟨-, rfl⟩ | ⟨-, rfl⟩⟩ := exec_transmits h hw
  · exact .inl rfl
  · exact .inr ⟨f, rfl, rfl, rfl⟩
  · exact .inl rfl

theorem exec_txOk (h : exec i s = .next t) (ok : TxOk s) : TxOk t := by
  intro some
  obtain same | ⟨f, -, new, -⟩ := exec_txq h
  · obtain keep | valid := exec_txb h
    · rw [same] at some
      rw [keep]
      exact ok some
    · exact valid
  · rw [new]

/-- No operation breaks the invariant. -/
theorem exec_inv (h : exec i s = .next t) (inv : Inv s) : Inv t := by
  obtain ⟨clock, timer, cars, results, faults, tx⟩ := inv
  have results' := exec_resultsOk h cars results
  exact ⟨by rwa [ClockOk, exec_now h], exec_timerOk h timer, exec_registryOk h cars results', results',
    exec_faultRegsOk h faults, exec_txOk h tx⟩

end

theorem raise_inv (f : FaultCode) {s : State} (inv : Inv s) : Inv (raise f s) := by
  obtain ⟨clock, timer, cars, results, faults, tx⟩ := inv
  exact ⟨clock, timer, cars, results, (faulted_raise f s).faultRegsOk faults, tx⟩

theorem worldMove_inv {s : State} (inv : Inv s) : Inv (worldMove s) := by
  obtain ⟨clock, timer, cars, results, faults, tx⟩ := inv
  exact ⟨worldMove_now_lt clock, timer.mono (worldMove_now_ge s), cars, results, faults, tx⟩

theorem reset_unknown (j : Fin 21) : State.reset.cars[j].known = false := by simp [State.reset]

end Sys2Proof.Machine
end

section
/-! The statements of 10_state.md settled: the invariant, the outside world's move, the owners of each register, the
slots, the frames written, and reset. -/

namespace Sys2Proof.Machine

open Sys2Proof

/-- Settles O59: a step is an operation or a fault, then the outside world's move, and each keeps the invariant. -/
theorem everyStepKeepsTheInvariant : Obligations.EveryStepKeepsTheInvariant := by
  intro s t inv h
  obtain ⟨-, rfl⟩ | ⟨_, _, _, -, -, rfl⟩ | ⟨_, _, i, u, -, -, hx, rfl⟩ := step_cases h
  · exact worldMove_inv inv
  · exact worldMove_inv (raise_inv .illegalOp inv)
  · exact worldMove_inv (exec_inv hx inv)

/-- Settles O58: at reset the timer is stopped at 0, no car is known, no result valid, no fault seen. -/
theorem invariantHoldsAtReset : Obligations.InvariantHoldsAtReset := by
  refine ⟨by decide, by decide, fun j known => ?_, ⟨nofun, nofun⟩, by decide, fun some => absurd rfl some⟩
  rw [reset_unknown j] at known
  contradiction

/-- Settles O9, by the two laws of the filter on `now`. -/
theorem worldMoveObeysTheInputLaws : Obligations.WorldMoveObeysTheInputLaws := by
  intro s
  exact ⟨worldMove_now_ge s, worldMove_now_lt, fun ge lt => if_pos ⟨ge, lt⟩, rfl⟩

/-- Settles O13, by the three ways an operation can end. -/
theorem faultRegistersFollowTheResponse : Obligations.FaultRegistersFollowTheResponse := by
  intro i s t k h hr
  obtain rfl | done | ⟨f, fault⟩ := exec_ended h
  · simp at hr
  · obtain rfl : 0 = k := by simpa [done.rspq] using hr
    exact ⟨fun _ => ⟨done.err, done.errseen⟩, fun hk => absurd rfl hk⟩
  · obtain rfl : codeOf f = k := by simpa [fault.rspq] using hr
    exact ⟨fun hk => absurd hk (codeOf_pos f), fun _ => ⟨fault.err, fun j _ => fault.getLsbD_errseen j⟩⟩

/-- Settles O36: neither an operation, nor a fault, nor the outside world clears a slot. -/
theorem knownCarsOnlyGrow : Obligations.KnownCarsOnlyGrow := by
  intro s t h j known
  obtain ⟨-, rfl⟩ | ⟨_, _, _, -, -, rfl⟩ | ⟨_, _, i, u, -, -, hx, rfl⟩ := step_cases h
  · exact known
  · exact known
  · exact exec_known hx known

/-- Settles O37: UPDATE and POLL are the writers of the slots, and a slot they write holds the frame of `RXT`. -/
theorem slotsAreReplacedWholesaleByUpdateAlone : Obligations.SlotsAreReplacedWholesaleByUpdateAlone := by
  intro i s t h
  refine ⟨fun notUpdate notPoll => exec_keeps h (p := .cars) ?_, fun j => ?_⟩
  · cases i <;> simp_all [writes]
  · exact (exec_slot h j).imp_right fun new => ⟨new.id, new.slot⟩

/-- Settles O50, by the writers of RaceStatus, SystemConfig and `CTX.valid`; INIT writes `CTX.valid` only to set it. -/
theorem contextIsWrittenByItsOwnersAlone : Obligations.ContextIsWrittenByItsOwnersAlone := by
  intro i s t h
  have writer := writes_of_changed h
  refine ⟨?_ ∘ writer .rs, ?_ ∘ writer .sc, fun changed => ?_⟩
  · cases i <;> simp [writes]
  · cases i <;> simp [writes]
  · have w := writer .ctxValid changed
    have e := exec_effect h
    cases i <;> simp [writes] at w
    obtain ⟨f, -, rfl⟩ | ⟨r, c, rfl⟩ := e
    · exact absurd rfl changed
    · exact ⟨⟨_, _, _, _, _, rfl⟩, rfl⟩

/-- Settles O52: what TRANSMIT did to `TXQ`, `TXB` and the events. -/
theorem writtenFrameIsTheOneInTxb : Obligations.WrittenFrameIsTheOneInTxb := fun _ _ _ h => exec_txq h

/-- Settles O54, by the writers of each result register. -/
theorem resultRegistersHaveTheirWriters : Obligations.ResultRegistersHaveTheirWriters := by
  intro i s t h
  have writer := writes_of_changed h
  refine ⟨?_ ∘ writer .rxt, ?_ ∘ writer .fwv, ?_ ∘ writer .csr, ?_ ∘ writer .res, ?_ ∘ writer .txb⟩
  all_goals cases i <;> simp [writes]

/-- Settles O57: reset writes `State.reset`'s value to every register and keeps the streams and the inputs. -/
theorem resetLeavesTheSpecifiedState : Obligations.ResetLeavesTheSpecifiedState := by
  exact ⟨fun s => ⟨rfl, rfl, reset_unknown, rfl, rfl, rfl, rfl, rfl, rfl, rfl, rfl, rfl, rfl, rfl, rfl, rfl⟩, rfl⟩

end Sys2Proof.Machine
end

section
/-! The statements of 20_memory.md settled: the step (R60, R62), and the two states that a failed `Read` or `Write` can
leave (R53). -/

namespace Sys2Proof.Machine

open Sys2Proof

variable {i : Instr} {s t : State}

/-! ### Answers other than TransportError -/

theorem PreciseFault.rspq_ne_transport (h : PreciseFault s t) : t.rspq ≠ s.rspq ++ [7] := by
  obtain ⟨f, hf, rfl⟩ := h
  cases f
  case transport => contradiction
  all_goals simp [codeOf]

theorem UpdateEffect.rspq_ne_transport (h : UpdateEffect s t) : t.rspq ≠ s.rspq ++ [7] := by
  obtain fault | ⟨j, -, -, rfl⟩ := h
  · exact fault.rspq_ne_transport
  · simp [updateSlot]

/-! ### Failed transport -/

/-- An operation that transmits nothing answers `TransportError` only when its `Read` failed (45_rxpath.md R205). -/
theorem eq_notRead_of_transport (h : exec i s = .next t) (hr : t.rspq = s.rspq ++ [7]) (hw : .txq ∉ writes i) :
    t = notRead s := by
  have e := exec_effect h
  cases i <;> simp only [ExecEffect] at e
  case setState | setSpeed | sendStatus | sendCmd | sendFwreq | sendFree => simp [writes] at hw
  case poll =>
    obtain ⟨-, rfl⟩ | ⟨-, failed⟩ | ⟨-, rfl⟩ | ⟨f, -, -, -, rfl⟩ := e
    · simp at hr
    · exact failed
    · simp [answered] at hr
    · exact absurd hr (update_effect _).rspq_ne_transport
  case flush =>
    obtain ⟨-, failed⟩ | ⟨v, -, rfl⟩ := e
    · exact failed
    · simp [answered] at hr
  case rxFw =>
    obtain ⟨-, -, rfl⟩ | ⟨-, failed⟩ | ⟨a, b, -, -, rfl⟩ := e
    · simp at hr
    · exact failed
    · simp at hr
  case update => exact absurd hr e.rspq_ne_transport
  case tStart | tPause | tResume | tStop => simp [e] at hr
  case encFwreq | encFree | tValue | tValueCs | tBytes =>
    obtain ⟨_, rfl⟩ := e
    simp at hr
  all_goals
    obtain fault | e := e
    exact absurd hr fault.rspq_ne_transport
  case decTel | decFw | unpack | rdCar | init =>
    obtain ⟨_, _, rfl⟩ := e
    simp at hr
  case encStatus | encCmd | setConfig =>
    obtain ⟨_, rfl⟩ := e
    simp at hr

/-- An operation that transmits answers `TransportError` only when its `Write` failed, after at most a write of
RaceStatus (44_builder.md R180, R189). -/
theorem eq_notSent_of_transport (h : exec i s = .next t) (hr : t.rspq = s.rspq ++ [7]) (hw : .txq ∈ writes i) :
    ∃ r f, t = notSent f (setRs r s) := by
  obtain fault | ⟨r, f, ⟨-, rfl⟩ | ⟨-, failed⟩⟩ := exec_transmits h hw
  · exact absurd hr fault.rspq_ne_transport
  · simp [sent, answered] at hr
  · exact ⟨r, f, failed⟩

/-- Settles O15: neither a failed `Write` nor a failed `Read` touches the queues, and each emits
`DongleConnected(false)` last. -/
theorem transportErrorsMoveNothing : Obligations.TransportErrorsMoveNothing := by
  intro i s t h hr
  by_cases hw : .txq ∈ writes i
  · obtain ⟨r, f, rfl⟩ := eq_notSent_of_transport h hr hw
    exact ⟨rfl, rfl, [.transmitReady f], by simp [notSent]⟩
  · obtain rfl := eq_notRead_of_transport h hr hw
    exact ⟨rfl, rfl, [], by simp [notRead]⟩

/-- Settles O7: of the branches of `step`, the request and its decoding choose the one that runs the operation. -/
theorem stepRunsTheDecodedOperation : Obligations.StepRunsTheDecodedOperation := by
  intro s t r rest i port decoded ran
  simp only [step, port, decoded, ran]

end Sys2Proof.Machine
end

section
/-! The request word byte by byte, the rows of the operation map, and what the decoder makes of them
(30_encoding.md R70 to R74). -/

namespace Sys2Proof

open Sys2Proof.Machine

/-! ### The bytes of a word -/

/-- A word is known by its eight bytes. -/
theorem eq_of_byteAt {v w : Word64} (h : ∀ b < 8, byteAt v (8 * b) = byteAt w (8 * b)) : v = w := by
  apply BitVec.eq_of_getLsbD_eq
  intro k hk
  have bit := congrArg (·.getLsbD (k % 8)) (h (k / 8) (by omega))
  simpa [byteAt, BitVec.getLsbD_extractLsb', Nat.mod_lt, Nat.div_add_mod] using bit

/-- A word whose `rsv` byte is 0 is packed from its other bytes. -/
theorem packWord_byteAt {w : Word64} (rsv : byteAt w 0 = 0) :
    packWord (byteAt w 56) (byteAt w 48) (byteAt w 40) (byteAt w 32) (byteAt w 24) (byteAt w 16) (byteAt w 8) = w := by
  apply eq_of_byteAt
  intro b hb
  interval_cases b <;> simp [byteAt_packWord, rsv]

theorem byteAt_and (v w : Word64) (lo : Nat) : byteAt (v &&& w) lo = byteAt v lo &&& byteAt w lo := by
  simp [byteAt, BitVec.extractLsb'_and]

/-- The `op` byte of a row's wanted bits. -/
theorem byteAt_op (op : Byte) : byteAt (op.setWidth 64 <<< 56) 56 = op := by
  revert op
  decide

/-- Below the `op` byte a row's wanted bits are all 0. -/
theorem byteAt_below_op (op : Byte) {lo : Nat} (below : lo + 8 ≤ 56) : byteAt (op.setWidth 64 <<< 56) lo = 0 := by
  apply BitVec.eq_of_getLsbD_eq
  intro k hk
  simp [byteAt, show lo + k < 56 by omega]

/-! ### Words under a format's mask -/

/-- Under the mask of format `f` the word is the row of `op` (30_encoding.md R71). -/
abbrev Matches (w : Word64) (op : Byte) (f : Fmt) : Prop := w &&& fmtMask f = op.setWidth 64 <<< 56

/-- A packed request with the operand bytes that format `f` reserves at 0 (30_encoding.md R71). -/
def fmtWord (f : Fmt) (op p0 p1 p2 p3 p4 p5 : Byte) : Word64 :=
  match f with
  | .z | .zb => packWord op 0 0 0 0 0 0
  | .a => packWord op p0 0 0 0 0 0
  | .b => packWord op p0 p1 p2 0 0 0
  | .e => packWord op p0 p1 p2 p3 p4 0
  | .c => packWord op p0 p1 p2 p3 p4 p5

section
variable {w : Word64} {op : Byte} {f : Fmt}

/-- A byte that the mask covers is that of the row. -/
theorem Matches.byteAt_eq (h : Matches w op f) {lo : Nat} (masked : byteAt (fmtMask f) lo = BitVec.allOnes 8) :
    byteAt w lo = byteAt (op.setWidth 64 <<< 56) lo := by
  rw [← h, byteAt_and, masked, BitVec.and_allOnes]

theorem Matches.op_eq (h : Matches w op f) : byteAt w 56 = op := by
  rw [h.byteAt_eq (by cases f <;> decide), byteAt_op]

theorem Matches.byteAt_eq_zero (h : Matches w op f) {lo : Nat} (below : lo + 8 ≤ 56)
    (masked : byteAt (fmtMask f) lo = BitVec.allOnes 8) : byteAt w lo = 0 := by
  rw [h.byteAt_eq masked, byteAt_below_op op below]

/-- A word that matches is packed from its `op` byte and the operand bytes of its format. -/
theorem Matches.fmtWord_byteAt (h : Matches w op f) :
    fmtWord f op (byteAt w 48) (byteAt w 40) (byteAt w 32) (byteAt w 24) (byteAt w 16) (byteAt w 8) = w := by
  have rsv : byteAt w 0 = 0 := h.byteAt_eq_zero (by decide) (by cases f <;> decide)
  conv_rhs => rw [← packWord_byteAt rsv, h.op_eq]
  cases f <;> simp (disch := decide) only [fmtWord, h.byteAt_eq_zero]

end

/-! ### The operation map -/

section
variable {op p0 p1 p2 p3 p4 p5 : Byte} {buf : List Byte} {f : Fmt} {i : Instr}

/-- The format of an `op` value, `none` when it is unassigned (30_encoding.md R72). -/
def fmtOf (op : Byte) : Option Fmt := (opMap op 0 0 0 0 0 0 []).map Prod.fst

/-- The operands and the buffer have no say in which row is chosen. -/
theorem map_fst_opMap : (opMap op p0 p1 p2 p3 p4 p5 buf).map Prod.fst = fmtOf op := by
  unfold fmtOf opMap
  generalize op.toNat = n
  split <;> rfl

/-- The operation of a row is encoded as the packed request of the row's format; DEC_TEL and DEC_FW carry the buffer. -/
theorem encode_of_opMap (row : opMap op p0 p1 p2 p3 p4 p5 buf = some (f, i)) :
    (encode i).word = fmtWord f op p0 p1 p2 p3 p4 p5 ∧ ∀ b, i = .decTel b ∨ i = .decFw b → b = buf := by
  have named : op = BitVec.ofNat 8 op.toNat := by simp
  unfold opMap at row
  generalize op.toNat = n at row named
  subst named
  split at row <;> cases row
  all_goals exact ⟨rfl, by rintro b (h | h) <;> cases h <;> rfl⟩

/-- The row of opcode_table.json of an `op` value. -/
def tableRow (op : Byte) : Option TableRow := (fmtOf op).map fun f => ⟨op.setWidth 64 <<< 56, fmtMask f⟩

/-- The written-out table has the rows of the operation map and no others. -/
theorem mem_opcodeTable_iff {row : TableRow} : row ∈ opcodeTable ↔ ∃ op, tableRow op = some row := by
  constructor
  · have listed : ∀ row ∈ opcodeTable, tableRow (byteAt row.wanted 56) = some row := by decide
    exact fun h => ⟨_, listed row h⟩
  · have listed : ∀ op, ∀ row ∈ tableRow op, row ∈ opcodeTable := by decide
    exact fun ⟨op, h⟩ => listed op row h

/-- A word matches no row but that of its `op` byte. -/
theorem tableRow_of_matches {row : TableRow} {w : Word64} (listed : row ∈ opcodeTable)
    (matched : w &&& row.mask = row.wanted) : tableRow (byteAt w 56) = some row := by
  obtain ⟨op, h⟩ := mem_opcodeTable_iff.mp listed
  obtain ⟨f, -, rfl⟩ := Option.map_eq_some_iff.mp h
  rwa [Matches.op_eq matched]

end

/-! ### The decoder -/

section
variable {r : Request} {i : Instr}

/-- What the operation map has for a request. -/
def selected (r : Request) : Option (Fmt × Instr) :=
  opMap (byteAt r.word 56) (byteAt r.word 48) (byteAt r.word 40) (byteAt r.word 32) (byteAt r.word 24)
    (byteAt r.word 16) (byteAt r.word 8) r.buf

theorem map_fst_selected : (selected r).map Prod.fst = fmtOf (byteAt r.word 56) := map_fst_opMap

/-- When a request is legal, and what it means (30_encoding.md R71, R74). -/
theorem decode_eq_ok_iff :
    decode r = .ok i ↔ ∃ f, selected r = some (f, i) ∧ Matches r.word (byteAt r.word 56) f := by
  unfold decode selected
  simp only
  split
  next unassigned => simp [unassigned]
  next => split <;> simp [Matches, *]

/-- A request is legal exactly when a row of the opcode table matches it (30_encoding.md R71). -/
theorem decodes_iff : (∃ i, decode r = .ok i) ↔ ∃ row ∈ opcodeTable, r.word &&& row.mask = row.wanted := by
  simp only [decode_eq_ok_iff]
  constructor
  · rintro ⟨i, f, row, matched⟩
    have fmt : fmtOf (byteAt r.word 56) = some f := by rw [← map_fst_selected, row, Option.map_some]
    exact ⟨_, mem_opcodeTable_iff.mpr ⟨_, by rw [tableRow, fmt, Option.map_some]⟩, matched⟩
  · rintro ⟨row, listed, matched⟩
    obtain ⟨f, fmt, rfl⟩ := Option.map_eq_some_iff.mp (tableRow_of_matches listed matched)
    rw [← map_fst_selected] at fmt
    obtain ⟨⟨f, i⟩, row, rfl⟩ := Option.map_eq_some_iff.mp fmt
    exact ⟨i, f, row, matched⟩

end

/-! ### Packed words written otherwise -/

/-- A request of format B, its reserved bytes as one field. -/
theorem packWord_eq_append_zeros (op p0 p1 p2 : Byte) : packWord op p0 p1 p2 0 0 0 = op ++ p0 ++ p1 ++ p2 ++ 0#32 := by
  apply BitVec.eq_of_toNat_eq
  rw [packWord]
  repeat rw [BitVec.toNat_append]
  simp [← Nat.shiftLeft_add, Nat.shiftLeft_or_distrib]

/-- A word with nothing but an `op` byte decodes to that operation, whatever the buffer. -/
theorem decode_of_op {op : Byte} {w : Word64} {i : Instr} {buf : List Byte} (word : packWord op 0 0 0 0 0 0 = w)
    (row : opMap op 0 0 0 0 0 0 buf = some (.z, i)) : decode ⟨w, buf⟩ = .ok i :=
  word ▸ decode_packWord row (packWord_z op)

end Sys2Proof
end

section
/-! The 128-bit event word: fields side by side are the fields placed one by one (30_encoding.md R88). -/

namespace Sys2Proof.Machine

open Sys2Proof

/-- The lower of two adjacent fields is at `lo`, the upper one just above it; the lower one ends within the word. -/
theorem evField_append {a b : Nat} (x : BitVec a) (y : BitVec b) {lo : Nat} (fits : lo + b ≤ 128) :
    evField (x ++ y) lo = evField x (lo + b) ||| evField y lo := by
  apply BitVec.eq_of_getLsbD_eq
  intro k hk
  simp only [evField, BitVec.getLsbD_or, BitVec.getLsbD_shiftLeft, BitVec.getLsbD_setWidth, BitVec.getLsbD_append]
  by_cases below : k < lo
  · simp [below, show k < lo + b by omega]
  by_cases inLower : k < lo + b
  · simp [below, inLower, show k - lo < b by omega]
  · have above : y.getLsbD (k - lo) = false := y.getLsbD_of_ge _ (by omega)
    simp [hk, below, inLower, above, Nat.sub_sub, show ¬k - lo < b by omega, show k - lo < 128 by omega,
      show k - (lo + b) < 128 by omega]

theorem evField_whole (w : BitVec 128) : evField w 0 = w := by simp [evField]

theorem evField_zeros (n lo : Nat) : evField 0#n lo = 0#128 := by simp [evField]

theorem bitVec_or_left_comm {n : Nat} (x y z : BitVec n) : x ||| (y ||| z) = y ||| (x ||| z) := by
  rw [← BitVec.or_assoc, BitVec.or_comm x, BitVec.or_assoc]

end Sys2Proof.Machine
end

section
/-! One response to each operation (30_encoding.md R87). -/

namespace Sys2Proof.Machine

open Sys2Proof

variable {i : Instr} {s t u : State}

/-- One response, 0 or a fault code, was given and the request left the port. -/
def Responded (s t : State) : Prop := ∃ k : Byte, k.toNat ≤ 8 ∧ t.rspq = s.rspq ++ [k] ∧ t.reqs = s.reqs.tail

/-- A held RX_FW: too few bytes wait, the `Read` has not failed, and nothing changes (45_rxpath.md R204). -/
def Held (i : Instr) (s t : State) : Prop := i = .rxFw ∧ s.rxq.length < 5 ∧ s.readOk = true ∧ t = s

/-- Completing an operation responds, whatever registers it wrote. -/
theorem responded_zero (hr : t.rspq = s.rspq ++ [0]) (hq : t.reqs = s.reqs.tail) : Responded s t :=
  ⟨0, by decide, hr, hq⟩

/-- Taking a fault responds, whatever registers were written before it. -/
theorem responded_code (f : FaultCode) (hr : t.rspq = s.rspq ++ [codeOf f]) (hq : t.reqs = s.reqs.tail) :
    Responded s t :=
  ⟨codeOf f, codeOf_le f, hr, hq⟩

theorem PreciseFault.responded (h : PreciseFault s t) : Responded s t := by
  obtain ⟨f, -, rfl⟩ := h
  exact responded_code f rfl rfl

theorem Transmitted.responded (h : Transmitted u t) : Responded u t := by
  obtain ⟨f, ⟨-, rfl⟩ | ⟨-, rfl⟩⟩ := h
  · exact responded_zero rfl rfl
  · exact responded_code .transport rfl rfl

theorem UpdateEffect.responded (h : UpdateEffect s t) : Responded s t := by
  obtain fault | ⟨j, -, -, rfl⟩ := h
  · exact fault.responded
  · exact responded_zero rfl rfl

/-- Every operation responds, but a held RX_FW. -/
theorem exec_responds (h : exec i s = .next t) : Responded s t ∨ Held i s t := by
  have e := exec_effect h
  cases i <;> simp only [ExecEffect] at e
  case rxFw =>
    obtain ⟨short, ok, rfl⟩ | ⟨-, rfl⟩ | ⟨a, b, -, -, rfl⟩ := e
    · exact .inr ⟨rfl, short, ok, rfl⟩
    · exact .inl (responded_code .transport rfl rfl)
    · exact .inl (responded_zero rfl rfl)
  all_goals left
  case tStart | tPause | tResume | tStop =>
    subst e
    exact responded_zero rfl rfl
  case encFwreq | encFree | tValue | tValueCs | tBytes =>
    obtain ⟨_, rfl⟩ := e
    exact responded_zero rfl rfl
  case sendFwreq | sendFree => exact e.responded
  case update => exact e.responded
  case poll =>
    obtain ⟨-, rfl⟩ | ⟨-, rfl⟩ | ⟨-, rfl⟩ | ⟨f, -, -, -, rfl⟩ := e
    · exact responded_zero rfl rfl
    · exact responded_code .transport rfl rfl
    · exact responded_zero rfl rfl
    · exact (update_effect _).responded
  case flush =>
    obtain ⟨-, rfl⟩ | ⟨v, -, rfl⟩ := e
    · exact responded_code .transport rfl rfl
    · exact responded_zero rfl rfl
  all_goals obtain fault | e := e; exact fault.responded
  case decTel | decFw | unpack | rdCar | init =>
    obtain ⟨_, _, rfl⟩ := e
    exact responded_zero rfl rfl
  case encStatus | encCmd | setConfig =>
    obtain ⟨_, rfl⟩ := e
    exact responded_zero rfl rfl
  case setState | setSpeed =>
    obtain ⟨r, sent⟩ := e
    exact sent.responded
  case sendStatus | sendCmd => exact e.responded

end Sys2Proof.Machine
end

section
/-! The statements of 30_encoding.md settled: the decoder and the encoder (R70 to R74), the literal frames (R85), the
responses (R87), the event words (R88) and the pseudo-operations (R90). -/

namespace Sys2Proof.Machine

open Sys2Proof

/-- Settles O1: each operation's packed request selects its own row, and matches it under the mask of its format. -/
theorem decodeOfEncodeIsTheOperation : Obligations.DecodeOfEncodeIsTheOperation := by
  intro i
  cases i
  case decTel | decFw => exact decode_packWord rfl (packWord_zb _)
  case rdCar | setState | setSpeed => exact decode_packWord rfl (packWord_a _ _)
  case encStatus | setConfig | sendCmd => exact decode_packWord rfl (packWord_b _ _ _ _)
  case init => exact decode_packWord rfl (packWord_e _ _ _ _ _ _)
  case encCmd => exact decode_packWord rfl (packWord_c _ _ _ _ _ _ _)
  all_goals exact decode_packWord rfl (packWord_z _)

/-- Settles O2: the operation is encoded as the packed word of its row, and a word that matches the row is that word. -/
theorem encodeOfDecodeIsTheRequest : Obligations.EncodeOfDecodeIsTheRequest := by
  intro r i h
  obtain ⟨f, row, matched⟩ := decode_eq_ok_iff.mp h
  obtain ⟨word, buffer⟩ := encode_of_opMap row
  exact ⟨word.trans matched.fmtWord_byteAt, buffer⟩

/-- Settles O3: a request that decodes matches a row. -/
theorem requestsOutsideTheTableAreIllegal : Obligations.RequestsOutsideTheTableAreIllegal := by
  intro s r rest port outside
  rcases decoded : decode r with e | i
  · simp only [step, port, decoded]
  · obtain ⟨row, listed, matched⟩ := decodes_iff.mp ⟨i, decoded⟩
    exact absurd matched (outside row listed)

/-- Settles O4: a request that matches a row decodes, and the only row it can match is that of its `op` byte. -/
theorem tableRowsDecodeAndAreDisjoint : Obligations.TableRowsDecodeAndAreDisjoint := by
  refine fun r => ⟨decodes_iff.mpr, fun row listed row' listed' matched matched' => ?_⟩
  have same : some row = some row' := by
    rw [← tableRow_of_matches listed matched, ← tableRow_of_matches listed' matched']
  exact Option.some.inj same

/-- Settles O12, by what each operation can answer. -/
theorem everyRequestGetsOneResponse : Obligations.EveryRequestGetsOneResponse := fun _ _ _ h => exec_responds h

/-- Settles O56: a concatenation is the `|||` of its parts, each placed where the event word has it. What the last line
settles is the order: but for a frame's bytes, the model names the low fields first and the statement the high ones. -/
theorem eventWordsArePackedAsSpecified : Obligations.EventWordsArePackedAsSpecified := by
  refine ⟨fun c => ?_, ?_, fun id laps ts ticks short => ?_, fun id ts => ?_, fun id ts => ?_, fun a ids => ?_,
    fun a ids => ?_, fun f => ?_⟩
  all_goals
    rw [eventWord, eq_comm, ← evField_whole (_ ++ _)]
    repeat rw [evField_append _ _ (by decide)]
    simp only [evField_zeros, BitVec.or_zero, BitVec.zero_or, Nat.reduceAdd]
  all_goals simp only [BitVec.or_assoc, BitVec.or_comm, bitVec_or_left_comm]

/-- Settles O5, by running the decoder on the eleven words. -/
theorem specWordsDecode : Obligations.SpecWordsDecode := by
  unfold Obligations.SpecWordsDecode
  decide

/-- Settles O6: every pseudo-operation is a SEND_CMD, and so a packed word of format B. -/
theorem pseudoOperationsAreSendCmdRequests : Obligations.PseudoOperationsAreSendCmdRequests := by
  intro id v request
  have packed (opsel arg : Byte) : (encode (.sendCmd id opsel arg)).word = request opsel arg :=
    packWord_eq_append_zeros 0x34 id opsel arg
  exact ⟨packed 1 v, packed 2 v, packed 3 v, packed 4 v, packed 5 v, packed 6 v, packed 0 0⟩

/-- Settles O44: none of the four operations looks at the context; what they answer depends on `Write` alone. -/
theorem literalFramesNeedNoContext : Obligations.LiteralFramesNeedNoContext := by
  refine ⟨fun buf => ⟨?_, ?_, ?_, ?_⟩, fun s => ⟨rfl, rfl, fun ok => ?_, fun bad => ?_⟩⟩
  · exact decode_of_op (op := 0x06) (by decide) rfl
  · exact decode_of_op (op := 0x07) (by decide) rfl
  · exact decode_of_op (op := 0x35) (by decide) rfl
  · exact decode_of_op (op := 0x36) (by decide) rfl
  · exact ⟨congrArg _ (transmit_of_ok ok), congrArg _ (transmit_of_ok ok)⟩
  · exact ⟨congrArg _ (transmit_of_fail bad), congrArg _ (transmit_of_fail bad)⟩

end Sys2Proof.Machine
end

section
/-! The inbound codec (40_codec_rx.md): the words of its two buffer operations, the masks of the wire bytes, the scaled
values, and the statements about DEC_TEL, DEC_FW and UNPACK settled from them. -/

namespace Sys2Proof.Machine

open Sys2Proof

/-! ### The words of the operations that read the buffer port -/

/-- A word with nothing but the `op` byte of a buffer operation decodes to that operation of the buffer. -/
theorem decode_of_op_buf {op : Byte} {w : Word64} {i : Instr} {buf : List Byte} (word : packWord op 0 0 0 0 0 0 = w)
    (row : opMap op 0 0 0 0 0 0 buf = some (.zb, i)) : decode ⟨w, buf⟩ = .ok i :=
  word ▸ decode_packWord row (packWord_zb op)

/-! ### Masks -/

/-- A mask of one bit tests that bit (00_scope.md R16). -/
theorem maskSet_twoPow (x : Byte) (k : Nat) (hk : k < 8 := by decide) :
    maskSet x (BitVec.twoPow 8 k) = x.getLsbD k := by
  have nonzero : BitVec.twoPow 8 k ≠ 0#8 := by interval_cases k <;> decide
  rw [maskSet, BitVec.and_twoPow]
  cases x.getLsbD k <;> simp [nonzero]

/-- The mask 0x7F keeps the low seven bits (30_encoding.md R78). -/
theorem powerMean_toNat (power : Byte) : (powerMean power).toNat = power.toNat % 128 := by
  rw [powerMean, BitVec.toNat_setWidth, BitVec.toNat_and]
  simp [Nat.and_two_pow_sub_one_eq_mod power.toNat 7]

/-! ### Scaled values -/

/-- A lap takes `lap_ticks` periods of 1/99.25 s (40_codec_rx.md R104). -/
theorem lapSeconds_mul (t : BitVec 16) : lapSeconds t * (9925 / 100) = t.toNat := by
  unfold lapSeconds
  ring

theorem lapSeconds_le (t : BitVec 16) : lapSeconds t ≤ 65535 * 4 / 397 := by
  have raw : (t.toNat : ℚ) ≤ 65535 := mod_cast Nat.le_of_lt_succ t.isLt
  unfold lapSeconds
  gcongr

/-- The scaled power is `power_raw` 127ths of 10 (40_codec_rx.md R110). -/
theorem powerScaled_mul (p : BitVec 7) : powerScaled p * 127 = p.toNat * 10 := by
  unfold powerScaled
  ring

theorem powerScaled_le (p : BitVec 7) : powerScaled p ≤ 10 := by
  have raw : (p.toNat : ℚ) ≤ 127 := mod_cast Nat.le_of_lt_succ p.isLt
  unfold powerScaled
  linarith

/-! ### The statements -/

/-- Settles O16: a decoder of 13 bytes and no others; its two-byte fields and timestamp are exact over the integers. -/
theorem decTelDecodesEveryFrame : Obligations.DecTelDecodesEveryFrame := by
  refine ⟨fun buf => decode_of_op_buf (op := 0x01) (by decide) rfl, fun s buf len => ?_,
    fun s b0 b1 b2 b3 b4 b5 b6 b7 b8 b9 b10 b11 b12 => ?_⟩
  · simp only [exec, execDecTel, decodeTelemetry_none len]
  · have ts : (timestamp b10 b11 b12 b4).toInt =
        (b10.toNat : Int) * 65536 + b11.toNat * 256 + b12.toNat - b4.toNat := by
      rw [timestamp_toInt]
      push_cast
      rfl
    exact ⟨_, rfl, rfl, word16_toNat b2 b3, word16_toNat b6 b5, rfl, rfl, rfl, ts, rfl⟩

/-- Settles O17: a decoder of five bytes and no others, which keeps two. -/
theorem decFwKeepsTheFirstTwoBytes : Obligations.DecFwKeepsTheFirstTwoBytes := by
  refine ⟨fun buf => decode_of_op_buf (op := 0x02) (by decide) rfl, fun s buf len => ?_, fun _ _ _ _ _ _ => rfl⟩
  simp only [exec, execDecFw, decodeFirmware_none len]

/-- Settles O18: each flag's mask is one bit, and the power mask takes the low seven. -/
theorem unpackAppliesTheMasks : Obligations.UnpackAppliesTheMasks := by
  refine ⟨fun buf => decode_of_op (op := 0x03) (by decide) rfl, fun s invalid => ?_, fun s valid => ?_⟩
  · simp [exec, execUnpack, invalid]
  · refine ⟨unpackFrame s.rxt.frame, maskSet_twoPow _ 0, maskSet_twoPow _ 1, maskSet_twoPow _ 4, rfl, rfl, rfl,
      powerMean_toNat _, maskSet_twoPow _ 7, maskSet_twoPow _ 2, maskSet_twoPow _ 3, maskSet_twoPow _ 4,
      maskSet_twoPow _ 5, maskSet_twoPow _ 6, maskSet_twoPow _ 7, rfl, rfl, ?_⟩
    simp only [exec, execUnpack, valid, if_true, complete_eq_answered, setCsr]

/-- Settles O19: a raw field is a natural number of its width, and the scales are its exact multiples. -/
theorem realValuedFieldsAreExact : Obligations.RealValuedFieldsAreExact :=
  ⟨fun t => ⟨lapSeconds_mul t, by unfold lapSeconds; positivity, lapSeconds_le t⟩,
    fun p => ⟨powerScaled_mul p, by unfold powerScaled; positivity, powerScaled_le p⟩⟩

end Sys2Proof.Machine
end

section
/-! The outbound codec (41_codec_tx.md): the two encoders as the bytes of the spec (R124, R126), the low nibble of byte 0
and the marker of byte 5 (R122, R123, R132), the opcode selectors (30_encoding.md R73), the checks of a command in their
order (R127, R128), and the statements about ENC_STATUS and ENC_CMD settled from them. -/

namespace Sys2Proof.Machine

open Sys2Proof

/-! ### The bytes of the frames -/

/-- With the block's own parameters the encoder's bytes are those of R124. -/
theorem encodeStatus_params (rs : RaceStatus) (sc : SystemConfig) (tb : TimerBytes) :
    encodeStatus Config.params rs sc tb = statusFrame rs sc tb := rfl

/-- With the block's own parameters the encoder's bytes are those of R126. -/
theorem encodeCommand_params (rs : RaceStatus) (sc : SystemConfig) (id : Byte) (op : CmdOp) (arg : Byte)
    (tb : TimerBytes) : encodeCommand Config.params rs sc id op arg tb = commandFrameBytes rs sc id op arg tb := by
  by_cases h : id = 0
  · subst h
    rfl
  · have nonzero : id.toNat ≠ 0 := fun zero => h (BitVec.eq_of_toNat_eq zero)
    rw [encodeCommand, if_neg h, commandFrameBytes, if_neg nonzero]
    rfl

/-- `(x & 0xF0) | 0x06` replaces the low nibble by 6 (41_codec_tx.md R132). -/
theorem and_F0_or_06_toNat (x : Byte) : ((x &&& 0xF0#8) ||| 0x06#8).toNat = x.toNat / 16 * 16 + 6 := by
  revert x
  decide

/-- The marker 0x80 stands above a code that leaves its bit free. -/
theorem marker_or_toNat {code : Byte} (free : code.toNat < 128) : (0x80#8 ||| code).toNat = 128 + code.toNat := by
  revert code
  decide

/-- Every command code leaves the marker's bit free (41_codec_tx.md R123). -/
theorem cmdCode_toNat_lt (p : Config.Params) (op : CmdOp) : (p.cmdCode op).toNat < 128 := by
  have low := (p.cmdLow op).isLt
  cases op
  case noAction => exact Nat.zero_lt_succ _
  all_goals
    rw [Config.Params.cmdCode, BitVec.toNat_setWidth_of_le (by decide)]
    · exact low
    · exact nofun

/-! ### The opcode selectors -/

/-- The selectors of the spec's table are legal, with the table's meanings (30_encoding.md R73). -/
theorem cmdOpOf_of_mem {opsel : Byte} {op : CmdOp} (listed : (opsel, op) ∈ cmdOpTable) : cmdOpOf opsel = some op := by
  have table : ∀ row ∈ cmdOpTable, cmdOpOf row.1 = some row.2 := by decide
  exact table _ listed

theorem cmdOpOf_none {opsel : Byte} (h : 6 < opsel.toNat) : cmdOpOf opsel = none := by
  unfold cmdOpOf
  split
  case h_8 => rfl
  all_goals omega

/-! ### The checks of a command -/

section
variable {id opsel arg : Byte} {tb : TimerBytes} {s : State}

theorem commandFrame_of_id_gt (init : s.ctxValid = true) (far : 20 < id.toNat) :
    commandFrame id opsel arg tb s = .error .carIdRange := by
  simp [commandFrame, init, far]

theorem commandFrame_of_opsel_gt (init : s.ctxValid = true) (near : id.toNat ≤ 20) (illegal : 6 < opsel.toNat) :
    commandFrame id opsel arg tb s = .error .operandRange := by
  simp [commandFrame, init, Nat.not_lt.mpr near, cmdOpOf_none illegal]

theorem commandFrame_of_legal {op : CmdOp} (init : s.ctxValid = true) (near : id.toNat ≤ 20)
    (listed : (opsel, op) ∈ cmdOpTable) :
    commandFrame id opsel arg tb s = .ok (commandFrameBytes s.rs s.sc id op arg tb) := by
  simp [commandFrame, init, Nat.not_lt.mpr near, cmdOpOf_of_mem listed, encodeCommand_params]

/-- A check that fails is the fault of both operations, which do nothing else. -/
theorem exec_of_commandFrame_error {f : FaultCode} (faulty : ∀ tb, commandFrame id opsel arg tb s = .error f)
    (tb0 tb1 tb2 : Byte) :
    exec (.encCmd id opsel arg tb0 tb1 tb2) s = .next (raise f s) ∧
      exec (.sendCmd id opsel arg) s = .next (raise f s) := by
  simp only [exec, execEncCmd, execSendCmd, faulty, and_self]

end

/-! ### The words of format B -/

/-- A request of format B with its reserved bytes as one field decodes to the operation of its row. -/
theorem decode_append_zeros {op p0 p1 p2 : Byte} {i : Instr} {buf : List Byte}
    (row : opMap op p0 p1 p2 0 0 0 buf = some (.b, i)) : decode ⟨op ++ p0 ++ p1 ++ p2 ++ 0#32, buf⟩ = .ok i :=
  packWord_eq_append_zeros op p0 p1 p2 ▸ decode_packWord row (packWord_b op p0 p1 p2)

/-! ### The statements -/

/-- Settles O24: for id 0 the bytes are those of the global form, for any other id those of the per-car form. -/
theorem commandFrameSlotsAreExclusive : Obligations.CommandFrameSlotsAreExclusive := by
  intro p rs sc id op arg tb f g
  have free := cmdCode_toNat_lt p op
  by_cases global : id = 0
  · have bytes : f = _ := if_pos global
    rw [bytes]
    exact ⟨and_F0_or_06_toNat _, by simp, free, rfl, fun _ => ⟨rfl, rfl, rfl, rfl, rfl⟩,
      fun other => absurd global other⟩
  · have bytes : f = _ := if_neg global
    have byte5 : f[5].toNat = 128 + (p.cmdCode op).toNat := by
      rw [bytes]
      exact marker_or_toNat free
    refine ⟨?_, by omega, free, rfl, fun zero => absurd zero global, fun _ => ⟨?_, ?_, ?_, by omega, ?_⟩⟩
    all_goals rw [bytes]
    · exact and_F0_or_06_toNat _
    all_goals rfl

/-- Settles O20: the operation has one check, which the valid context passes. -/
theorem encStatusPutsTheStatusFrame : Obligations.EncStatusPutsTheStatusFrame := by
  refine ⟨fun tb0 tb1 tb2 buf => decode_append_zeros (op := 0x04) rfl, fun s tb0 tb1 tb2 init => ?_⟩
  simp only [exec, execEncStatus, init, if_true, complete_eq_answered, setTxb, encodeStatus_params]

/-- Settles O21: a command that passes its checks is the frame that goes to `TXB`. -/
theorem encCmdPutsTheCommandFrame : Obligations.EncCmdPutsTheCommandFrame := by
  refine ⟨fun id opsel arg tb0 tb1 tb2 buf => decode_packWord (op := 0x05) rfl (packWord_c _ _ _ _ _ _ _),
    fun s id opsel arg tb0 tb1 tb2 op init near listed => ?_⟩
  simp only [exec, execEncCmd, commandFrame_of_legal init near listed, complete_eq_answered, setTxb]

/-- Settles O22: both operations run the same checks in the same order, whatever the timer bytes. -/
theorem commandChecksComeInOrder : Obligations.CommandChecksComeInOrder := by
  intro s id opsel arg tb0 tb1 tb2 init
  constructor
  · intro far
    exact exec_of_commandFrame_error (fun _ => commandFrame_of_id_gt init far) tb0 tb1 tb2
  · intro near illegal
    exact exec_of_commandFrame_error (fun _ => commandFrame_of_opsel_gt init near illegal) tb0 tb1 tb2

end Sys2Proof.Machine
end

section
/-! The race timer (42_timer.md): what the four operations make of a timer in each state, the reading over
the naturals and in centiseconds, and the statements about the seven T_ operations settled from them. -/

namespace Sys2Proof.Machine

open Sys2Proof

section
variable {t : Timer} {now : Word64}

/-! ### The states -/

theorem timerStateOf_of_running (r : t.running = true) : timerStateOf t = .running := if_pos r

theorem timerStateOf_of_empty (r : t.running = false) (empty : t.pacc = 0) : timerStateOf t = .stopped := by
  simp [timerStateOf, r, empty]

theorem timerStateOf_of_nonzero (r : t.running = false) (nonzero : t.pacc ≠ 0) : timerStateOf t = .paused := by
  rw [timerStateOf, if_neg (by simp [r]), if_neg nonzero]

/-- The registers that each state is read off (10_state.md R22). -/
theorem timerStateOf_cases (t : Timer) :
    (t.running = true ∧ timerStateOf t = .running) ∨
    (t.running = false ∧ t.pacc = 0 ∧ timerStateOf t = .stopped) ∨
    (t.running = false ∧ t.pacc ≠ 0 ∧ timerStateOf t = .paused) := by
  rcases Bool.eq_false_or_eq_true t.running with r | r
  · exact .inl ⟨r, timerStateOf_of_running r⟩
  · by_cases empty : t.pacc = 0
    · exact .inr (.inl ⟨r, empty, timerStateOf_of_empty r empty⟩)
    · exact .inr (.inr ⟨r, empty, timerStateOf_of_nonzero r empty⟩)

/-! ### The four operations, state by state -/

theorem timerStart_of_running (r : t.running = true) : timerStart t now = t := if_pos r

theorem timerStart_of_idle (r : t.running = false) :
    timerStart t now = { running := true, start := now, pacc := t.pacc, sacc := 0 } := by
  simp [timerStart, r]

theorem timerStart_running : (timerStart t now).running = true := by
  rcases Bool.eq_false_or_eq_true t.running with r | r
  · rwa [timerStart_of_running r]
  · rw [timerStart_of_idle r]

/-- The time since arming is folded in by making the reading the paused accumulator. -/
theorem timerPause_of_running (r : t.running = true) :
    timerPause t now = { running := false, start := t.start, pacc := timerValue t now, sacc := t.sacc } := by
  simp only [timerPause, timerValue, r, if_true, BitVec.add_comm]

theorem timerPause_of_idle (r : t.running = false) : timerPause t now = t := by simp [timerPause, r]

theorem timerResume_of_running_or_empty (h : t.running = true ∨ t.pacc = 0) : timerResume t now = t := by
  refine if_neg fun ⟨idle, nonzero⟩ => ?_
  obtain r | empty := h
  · simp [r] at idle
  · exact nonzero empty

theorem timerResume_of_paused (r : t.running = false) (nonzero : t.pacc ≠ 0) :
    timerResume t now = { t with running := true, start := now } :=
  if_pos ⟨r, nonzero⟩

theorem timerStop_of_running (r : t.running = true) :
    timerStop t now = { running := false, start := t.start, pacc := 0, sacc := t.sacc + timerValue t now } := by
  simp only [timerStop, timerValue, r, if_true, BitVec.add_comm]

theorem timerStop_of_idle (r : t.running = false) :
    timerStop t now = { running := false, start := t.start, pacc := 0, sacc := t.sacc + t.pacc } := by
  simp [timerStop, r]

/-! ### The reading -/

theorem timerValue_of_idle (r : t.running = false) : timerValue t now = t.sacc := by simp [timerValue, r]

/-- The reading while running, over the naturals (42_timer.md R141, R142). -/
theorem timerValue_of_running (r : t.running = true) :
    timerValue t now = BitVec.ofNat 64 (t.pacc.toNat + now.toNat + 2 ^ 64 - t.start.toNat) := by
  simp only [timerValue, r, if_true]
  bv_omega

/-- A timer armed now reads its paused accumulator. -/
theorem timerValue_of_armed (pacc sacc : Word64) :
    timerValue { running := true, start := now, pacc := pacc, sacc := sacc } now = pacc := by
  simp [timerValue]

/-- A reading of zero spells the bytes 00 00 00 (42_timer.md R154). -/
theorem csBytes_of_zero (zero : timerValue t now = 0) : csBytes t now = { tb0 := 0, tb1 := 0, tb2 := 0 } := by
  simp [csBytes, timerCs24, timerCs, zero]

/-- The model's reading is the one that the statements write over the naturals. -/
theorem timerValue_toNat_eq_timerNs (s : State) : (timerValue s.timer s.now).toNat = timerNs s := by
  unfold timerNs
  split
  next r =>
    rw [timerValue_of_running r, BitVec.toNat_ofNat]
    omega
  next r => rw [timerValue_of_idle (by simpa using r)]

/-- The timer bytes spell the timer field of a frame (42_timer.md R152; 44_builder.md R191). -/
theorem wireTime_csBytes (s : State) : wireTime (csBytes s.timer s.now) = timerField s := by
  rw [wireTime, csBytes_toNat, timerCs24_toNat, timerValue_toNat_eq_timerNs]
  rfl

end

/-! ### The statements -/

/-- Settles O25: `start` leaves a running timer as it is and arms any other. -/
theorem tStartArmsTheTimer : Obligations.TStartArmsTheTimer := by
  refine ⟨fun buf => decode_of_op (op := 0x10) (by decide) rfl, fun s => ⟨fun r => ?_, fun r => ?_⟩⟩
  · rw [exec, execTStart, timerStart_of_running r]
    rfl
  · rw [exec, execTStart, timerStart_of_idle r]
    rfl

/-- Settles O26: the paused accumulator becomes the reading, which folds in the time since arming. -/
theorem tPauseFoldsTheElapsedTime : Obligations.TPauseFoldsTheElapsedTime := by
  refine ⟨fun buf => decode_of_op (op := 0x11) (by decide) rfl, fun s => ⟨fun r => ?_, fun r => ?_⟩⟩
  · rw [exec, execTPause, timerPause_of_idle r]
    rfl
  · rw [exec, execTPause, timerPause_of_running r, timerValue_of_running r]
    rfl

/-- Settles O27: `resume` asks for both conditions, and without either leaves the timer as it is. -/
theorem tResumeRearmsAPausedTimer : Obligations.TResumeRearmsAPausedTimer := by
  refine ⟨fun buf => decode_of_op (op := 0x12) (by decide) rfl, fun s => ⟨fun h => ?_, fun r nonzero => ?_⟩⟩
  · rw [exec, execTResume, timerResume_of_running_or_empty h]
    rfl
  · rw [exec, execTResume, timerResume_of_paused r nonzero]
    rfl

/-- Settles O28: the reading while running, or the paused accumulator, is added, modulo 2^64. -/
theorem tStopFoldsEverything : Obligations.TStopFoldsEverything := by
  refine ⟨fun buf => decode_of_op (op := 0x13) (by decide) rfl, fun s => ⟨fun r => ?_, fun r => ?_⟩⟩
  · have folded : s.timer.sacc + timerValue s.timer s.now = BitVec.ofNat 64
        (s.timer.sacc.toNat + s.timer.pacc.toNat + s.now.toNat + 2 ^ 64 - s.timer.start.toNat) := by
      rw [timerValue_of_running r]
      bv_omega
    rw [exec, execTStop, timerStop_of_running r, folded]
    rfl
  · have folded : s.timer.sacc + s.timer.pacc = BitVec.ofNat 64 (s.timer.sacc.toNat + s.timer.pacc.toNat) := by
      bv_omega
    rw [exec, execTStop, timerStop_of_idle r, folded]
    rfl

/-- Settles O29: the reading, its whole centiseconds, and the number that its three bytes spell. -/
theorem timerReadingsAreExact : Obligations.TimerReadingsAreExact := by
  refine ⟨fun buf => ⟨?_, ?_, ?_⟩, fun s => ⟨?_, ?_, ?_⟩⟩
  · exact decode_of_op (op := 0x14) (by decide) rfl
  · exact decode_of_op (op := 0x15) (by decide) rfl
  · exact decode_of_op (op := 0x16) (by decide) rfl
  · have reading : timerValue s.timer s.now = BitVec.ofNat 64 (timerNs s) := by
      rw [← timerValue_toNat_eq_timerNs, BitVec.ofNat_toNat, BitVec.setWidth_eq]
    rw [exec, execTValue, reading]
    rfl
  · rw [exec, execTValueCs, timerCs, timerValue_toNat_eq_timerNs]
    rfl
  · have spelt := wireTime_csBytes s
    rw [wireTime] at spelt
    simp only [exec, execTBytes, spelt]
    rfl

/-- Settles O30: each operation's column of the table, row by row. -/
theorem timerStatesFollowTheTransitionTable : Obligations.TimerStatesFollowTheTransitionTable := by
  rintro s t ⟨hsacc, -⟩
  rw [← timerValue_toNat_eq_timerNs]
  refine ⟨fun h => ?start, fun h => ?pause, fun h => ?resume, fun h => ?stop⟩
  all_goals
    obtain rfl := exec_effect h
    simp only [complete_timer, setTimer_timer]
  case start => exact timerStateOf_of_running timerStart_running
  case pause =>
    obtain ⟨r, state⟩ | ⟨r, -, state⟩ | ⟨r, -, state⟩ := timerStateOf_cases s.timer <;> simp only [state]
    · simp [timerPause_of_running r, timerStateOf, BitVec.toNat_eq]
    · rw [timerPause_of_idle r, state]
    · rw [timerPause_of_idle r, state]
  case resume =>
    obtain ⟨r, state⟩ | ⟨r, empty, state⟩ | ⟨r, nonzero, state⟩ := timerStateOf_cases s.timer <;> simp only [state]
    · rw [timerResume_of_running_or_empty (.inl r), state]
    · rw [timerResume_of_running_or_empty (.inr empty), state]
    · rw [timerResume_of_paused r nonzero, timerStateOf_of_running rfl]
  case stop =>
    refine ⟨timerStateOf_of_empty rfl rfl, ?_⟩
    obtain ⟨r, state⟩ | ⟨r, empty, state⟩ | ⟨r, nonzero, state⟩ := timerStateOf_cases s.timer <;> simp only [state]
    · simp [timerStop_of_running r, hsacc (.inl r)]
    · simp [timerStop_of_idle r, empty]
    · simp [timerStop_of_idle r, hsacc (.inr nonzero)]

/-- Settles O31: the timer still meets the invariant later, so both readings are exact. -/
theorem timerReadingIsMonotoneAndNeverWraps : Obligations.TimerReadingIsMonotoneAndNeverWraps := by
  intro t now later ok le _
  rw [timerValue_toNat ok, timerValue_toNat (ok.mono le)]
  obtain ⟨-, hrun, -, hle⟩ := ok
  rcases Bool.eq_false_or_eq_true t.running with r | r
  · obtain ⟨armed, paused⟩ := hrun r
    simp only [r, if_true]
    omega
  · simp [r, hle]

/-- Settles O32: the pause turns the reading into the paused accumulator, and a timer armed later starts from that. -/
theorem pausedTimerReadsZeroAndContinues : Obligations.PausedTimerReadsZeroAndContinues := by
  rintro t now later ⟨hsacc, -⟩ r nonzero -
  have readsZero : timerValue (timerPause t now) later = 0 := by
    rw [timerPause_of_running r, timerValue_of_idle rfl, hsacc (.inl r)]
  refine ⟨?_, readsZero, csBytes_of_zero readsZero, ?_, ?_, ?_⟩
  · rw [timerPause_of_running r, timerStateOf_of_nonzero rfl nonzero]
  · rw [timerPause_of_running r, timerResume_of_paused rfl nonzero, timerValue_of_armed]
  · rw [timerPause_of_running r, timerStart_of_idle rfl, timerValue_of_armed]
  · rw [timerStop_of_running r, timerStart_of_idle rfl, timerValue_of_armed]

end Sys2Proof.Machine
end

section
/-! The registry (43_registry.md): what UPDATE comes to for each kind of frame, the per-car events of its diff against a
known slot and against the default record, the words of format A, and the statements about UPDATE and RD_CAR. -/

namespace Sys2Proof.Machine

open Sys2Proof

/-! ### The words of format A -/

/-- A request of format A, its reserved bytes as one field. -/
theorem packWord_formatA_eq_append_zeros (op p0 : Byte) : packWord op p0 0 0 0 0 0 = op ++ p0 ++ 0#48 := by
  apply BitVec.eq_of_toNat_eq
  rw [packWord]
  repeat rw [BitVec.toNat_append]
  simp [← Nat.shiftLeft_add]

/-- A request of format A with its reserved bytes as one field decodes to the operation of its row. -/
theorem decode_formatA_append_zeros {op p0 : Byte} {i : Instr} {buf : List Byte}
    (row : opMap op p0 0 0 0 0 0 buf = some (.a, i)) : decode ⟨op ++ p0 ++ 0#48, buf⟩ = .ok i :=
  packWord_formatA_eq_append_zeros op p0 ▸ decode_packWord row (packWord_a op p0)

/-! ### The slot of an id -/

theorem slotOf_of_toNat_eq {id : Byte} {i : Fin 21} (h : id.toNat = i.val) : slotOf id = some i := by
  rw [slotOf_some (h ▸ i.isLt)]
  exact congrArg some (Fin.ext h)

/-! ### What UPDATE comes to -/

section
variable {s : State}

theorem update_of_no_frame (invalid : s.rxt.valid = false) : update s = raise .noFrame s := by
  simp [update, invalid]

theorem update_of_id_gt (valid : s.rxt.valid = true) (far : 20 < s.rxt.frame.id.toNat) :
    update s = raise .carIdRange s := by
  simp [update, valid, slotOf_none far]

theorem update_of_slot {i : Fin 21} (valid : s.rxt.valid = true) (slot : s.rxt.frame.id.toNat = i.val) :
    update s = complete (updateSlot Config.params.suppressFirstFrameEvents i (unpackFrame s.rxt.frame) s) := by
  simp [update, valid, slotOf_of_toNat_eq slot]

/-- What RD_CAR comes to for the id of a slot. -/
theorem execRdCar_of_slot {id : Byte} {i : Fin 21} (slot : id.toNat = i.val) :
    execRdCar id s =
      if s.cars[i].known then .next (complete (setCsr s.cars[i].car s)) else .next (raise .unknownCar s) := by
  simp only [execRdCar, slotOf_of_toNat_eq slot]

end

/-! ### The diff -/

/-- `PitEnter` on a rising in-pit flag, `PitLeave` on a falling one (43_registry.md R166). -/
theorem pitEvents_eq (prev new : CarState) :
    pitEvents prev new =
      if new.inPit && !prev.inPit then [.pitEnter new.id new.ts]
      else if !new.inPit && prev.inPit then [.pitLeave new.id new.ts] else [] := by
  unfold pitEvents
  cases new.inPit <;> cases prev.inPit <;> rfl

/-- A first sighting is diffed against lap count 0 and a car out of the pit (43_registry.md R162, R163). -/
theorem diffEvents_eq (suppress : Bool) (old : Slot) (new : CarState) :
    diffEvents suppress old new =
      if !old.known && suppress then [] else
        (if (if old.known then old.car.lapCount.toNat else 0) < new.lapCount.toNat
          then [.newLap new.id new.lapCount new.ts new.lapTicks new.lapShort] else []) ++
        (if new.inPit && !(old.known && old.car.inPit) then [.pitEnter new.id new.ts]
          else if !new.inPit && (old.known && old.car.inPit) then [.pitLeave new.id new.ts] else []) := by
  simp only [diffEvents, lapEvents, pitEvents_eq]
  cases old.known <;> rfl

/-! ### The statements -/

/-- Settles O33: the witnesses are the model's own id sets, taken over the registry after the replacement. -/
theorem updateDiffsReplacesAndAggregates : Obligations.UpdateDiffsReplacesAndAggregates := by
  refine ⟨fun buf => decode_of_op (op := 0x20) (by decide) rfl, fun s i valid slot => ?_⟩
  refine ⟨trackCallIds _, offTrackIds _, idMask_getLsbD _ _, idMask_getLsbD _ _, ?_⟩
  rw [exec, execUpdate, update_of_slot valid slot, complete_eq_answered, updateSlot, diffEvents_eq]
  rfl

/-- Settles O34: both checks come before the diff. -/
theorem updateFaultsChangeNoSlot : Obligations.UpdateFaultsChangeNoSlot := fun _ =>
  ⟨fun invalid => congrArg _ (update_of_no_frame invalid),
    fun valid far => congrArg _ (update_of_id_gt valid far)⟩

/-- Settles O35: the id is checked first, then whether its car is known. -/
theorem rdCarReadsAKnownSlot : Obligations.RdCarReadsAKnownSlot := by
  refine ⟨fun id buf => decode_formatA_append_zeros (op := 0x21) rfl, fun s id =>
    ⟨fun far => ?_, fun i slot => ⟨fun unknown => ?_, fun known => ?_⟩⟩⟩
  · simp only [exec, execRdCar, slotOf_none far]
  · rw [exec, execRdCar_of_slot slot, unknown]
    rfl
  · rw [exec, execRdCar_of_slot slot, known]
    rfl

end Sys2Proof.Machine
end

section
/-! The command builder (44_builder.md): the selectors of the context (30_encoding.md R73), what each sending operation
hands to TRANSMIT, the four operations that write the timer, the words of format E, and the statements about INIT, the
SET_ and SEND_ operations and the timer's independence (R190) settled from them. -/

namespace Sys2Proof.Machine

open Sys2Proof

/-! ### The selectors -/

section
variable {ssel trig count mode : Byte} {tr : PitTrigger} {ct : PitCount} {md : PowerMode}

/-- The race-state selectors of the spec's table are legal, with the table's meanings (30_encoding.md R73). -/
theorem raceStateOf_of_mem {st : RaceState} (listed : (ssel, st) ∈ raceStateTable) : raceStateOf ssel = some st := by
  have table : ∀ row ∈ raceStateTable, raceStateOf row.1 = some row.2 := by decide
  exact table _ listed

theorem raceStateOf_none (illegal : 4 < ssel.toNat) : raceStateOf ssel = none := by
  unfold raceStateOf
  split
  case h_6 => rfl
  all_goals omega

theorem pitTriggerOf_none (illegal : 1 < trig.toNat) : pitTriggerOf trig = none := by
  unfold pitTriggerOf
  split
  case h_3 => rfl
  all_goals omega

theorem pitCountOf_none (illegal : 1 < count.toNat) : pitCountOf count = none := by
  unfold pitCountOf
  split
  case h_3 => rfl
  all_goals omega

theorem powerModeOf_none (illegal : 1 < mode.toNat) : powerModeOf mode = none := by
  unfold powerModeOf
  split
  case h_3 => rfl
  all_goals omega

/-- The three configuration selectors of the spec's tables are legal together (30_encoding.md R73). -/
theorem configOf_of_mem (htr : (trig, tr) ∈ trigTable) (hct : (count, ct) ∈ countTable)
    (hmd : (mode, md) ∈ modeTable) : configOf trig count mode = some { trig := tr, count := ct, mode := md } := by
  have tables : ∀ t ∈ trigTable, ∀ c ∈ countTable, ∀ m ∈ modeTable,
      configOf t.1 c.1 m.1 = some { trig := t.2, count := c.2, mode := m.2 } := by decide
  exact tables _ htr _ hct _ hmd

/-- One illegal selector of the three is enough. -/
theorem configOf_none (illegal : 1 < trig.toNat ∨ 1 < count.toNat ∨ 1 < mode.toNat) :
    configOf trig count mode = none := by
  unfold configOf
  obtain h | h | h := illegal
  · rw [pitTriggerOf_none h]
  · rw [pitCountOf_none h]
    cases pitTriggerOf trig <;> rfl
  · rw [powerModeOf_none h]
    cases pitTriggerOf trig <;> cases pitCountOf count <;> rfl

end

/-! ### What the sending operations transmit -/

section
variable {s : State}

/-- SET_STATE transmits from the state with the race state written. -/
theorem exec_setState_of_mem {ssel : Byte} {st : RaceState} (init : s.ctxValid = true)
    (listed : (ssel, st) ∈ raceStateTable) :
    exec (.setState ssel) s = .next (transmitStatus (setRs { s.rs with state := st } s)) := by
  simp only [exec, execSetState, init, if_true, raceStateOf_of_mem listed]

/-- SET_SPEED transmits from the state with the speed written. -/
theorem exec_setSpeed_of_valid {speed : Byte} (init : s.ctxValid = true) :
    exec (.setSpeed speed) s = .next (transmitStatus (setRs { s.rs with speed := speed } s)) := if_pos init

theorem exec_sendStatus_of_valid (init : s.ctxValid = true) : exec .sendStatus s = .next (transmitStatus s) :=
  if_pos init

theorem exec_sendCmd_of_legal {id opsel arg : Byte} {op : CmdOp} (init : s.ctxValid = true) (near : id.toNat ≤ 20)
    (listed : (opsel, op) ∈ cmdOpTable) :
    exec (.sendCmd id opsel arg) s =
      .next (transmit (commandFrameBytes s.rs s.sc id op arg (csBytes s.timer s.now)) s) := by
  simp only [exec, execSendCmd, commandFrame_of_legal init near listed]

theorem transmitStatus_of_ok (ok : s.writeOk = true) :
    transmitStatus s = sent (statusFrame s.rs s.sc (csBytes s.timer s.now)) s := transmit_of_ok ok

theorem transmitStatus_of_fail (bad : s.writeOk = false) :
    transmitStatus s = notSent (statusFrame s.rs s.sc (csBytes s.timer s.now)) s := transmit_of_fail bad

end

/-! ### The writers of the timer -/

/-- An operation with the timer among its pieces is one of the four state-changing timer operations (42_timer.md R155). -/
theorem mem_timerOps_of_writes {i : Instr} (h : .timer ∈ writes i) :
    i ∈ [Instr.tStart, .tPause, .tResume, .tStop] := by
  cases i <;> simp [writes] at h ⊢

/-- Each of the four is one function of the timer and `now`, written to the timer. -/
theorem exec_timerOp {i : Instr} (h : i ∈ [Instr.tStart, .tPause, .tResume, .tStop]) :
    ∃ f : Timer → Word64 → Timer, ∀ s, exec i s = .next (complete (setTimer (f s.timer s.now) s)) := by
  simp only [List.mem_cons, List.not_mem_nil, or_false] at h
  obtain rfl | rfl | rfl | rfl := h
  · exact ⟨timerStart, fun _ => rfl⟩
  · exact ⟨timerPause, fun _ => rfl⟩
  · exact ⟨timerResume, fun _ => rfl⟩
  · exact ⟨timerStop, fun _ => rfl⟩

/-! ### The words of format E -/

/-- A request of format E, its reserved bytes as one field. -/
theorem packWord_formatE_eq_append_zeros (op p0 p1 p2 p3 p4 : Byte) :
    packWord op p0 p1 p2 p3 p4 0 = op ++ p0 ++ p1 ++ p2 ++ p3 ++ p4 ++ 0#16 := by
  apply BitVec.eq_of_toNat_eq
  rw [packWord]
  repeat rw [BitVec.toNat_append]
  simp [← Nat.shiftLeft_add, Nat.shiftLeft_or_distrib]

/-- A request of format E with its reserved bytes as one field decodes to the operation of its row. -/
theorem decode_formatE_append_zeros {op p0 p1 p2 p3 p4 : Byte} {i : Instr} {buf : List Byte}
    (row : opMap op p0 p1 p2 p3 p4 0 buf = some (.e, i)) :
    decode ⟨op ++ p0 ++ p1 ++ p2 ++ p3 ++ p4 ++ 0#16, buf⟩ = .ok i :=
  packWord_formatE_eq_append_zeros op p0 p1 p2 p3 p4 ▸ decode_packWord row (packWord_e op p0 p1 p2 p3 p4)

/-! ### The statements -/

/-- Settles O41: both transmit from the state with the register written, whose timer and `now` are those before. -/
theorem setStateAndSetSpeedMutateThenSend : Obligations.SetStateAndSetSpeedMutateThenSend := by
  refine ⟨fun p0 buf => ⟨?_, ?_⟩, fun s ssel speed st init listed =>
    ⟨csBytes s.timer s.now, wireTime_csBytes s, fun ok => ?_, fun bad => ?_⟩⟩
  · exact decode_formatA_append_zeros (op := 0x30) rfl
  · exact decode_formatA_append_zeros (op := 0x31) rfl
  all_goals rw [exec_setState_of_mem init listed, exec_setSpeed_of_valid init]
  · exact ⟨congrArg _ (transmitStatus_of_ok ok), congrArg _ (transmitStatus_of_ok ok)⟩
  · exact ⟨congrArg _ (transmitStatus_of_fail bad), congrArg _ (transmitStatus_of_fail bad)⟩

/-- Settles O51: the timer is not among the pieces of the others; what the four write is a function of it and `now`. -/
theorem timerAndRaceStateAreIndependent : Obligations.TimerAndRaceStateAreIndependent := by
  refine fun i s t h => ⟨fun other => exec_keeps h (p := .timer) (mt mem_timerOps_of_writes other), fun timerOp => ?_⟩
  obtain ⟨f, ran⟩ := exec_timerOp timerOp
  rw [ran] at h
  cases h
  refine ⟨rfl, fun s' t' h' timer now => ?_⟩
  rw [ran] at h'
  cases h'
  simp only [complete_timer, setTimer_timer, timer, now]

/-- Settles O38: the selectors are all checked before the three writes. -/
theorem initWritesTheWholeContext : Obligations.InitWritesTheWholeContext := by
  refine ⟨fun _ _ _ _ _ _ => decode_formatE_append_zeros (op := 0x37) rfl, fun s ssel speed trig count mode =>
    ⟨fun illegal => ?_, fun st tr ct md hst htr hct hmd => ?_⟩⟩
  · obtain badState | badConfig := illegal
    · simp only [exec, execInit, raceStateOf_none badState]
    · simp only [exec, execInit, configOf_none badConfig]
      cases raceStateOf ssel <;> rfl
  · simp only [exec, execInit, raceStateOf_of_mem hst, configOf_of_mem htr hct hmd]
    rfl

/-- Settles O39: the context is checked first, then the selectors. -/
theorem setConfigWritesWithoutSending : Obligations.SetConfigWritesWithoutSending := by
  refine ⟨fun _ _ _ _ => decode_append_zeros (op := 0x32) rfl, fun s trig count mode =>
    ⟨fun invalid => ?_, fun init illegal => ?_, fun tr ct md init htr hct hmd => ?_⟩⟩
  · simp [exec, execSetConfig, invalid]
  · simp only [exec, execSetConfig, init, if_true, configOf_none illegal]
  · rw [exec, execSetConfig, if_pos init, configOf_of_mem htr hct hmd]
    rfl

/-- Settles O40: the selector is looked up before anything is written. -/
theorem setStateChecksItsSelector : Obligations.SetStateChecksItsSelector := by
  intro s ssel init illegal
  simp only [exec, execSetState, init, if_true, raceStateOf_none illegal]

/-- Settles O42: with the context valid the operation is TRANSMIT of the status frame. -/
theorem sendStatusTransmitsTheStatusFrame : Obligations.SendStatusTransmitsTheStatusFrame := by
  refine ⟨fun buf => decode_of_op (op := 0x33) (by decide) rfl, fun s invalid => ?_, fun s init =>
    ⟨csBytes s.timer s.now, wireTime_csBytes s, fun ok => ?_, fun bad => ?_⟩⟩
  · simp [exec, execSendStatus, invalid]
  · rw [exec_sendStatus_of_valid init, transmitStatus_of_ok ok]
  · rw [exec_sendStatus_of_valid init, transmitStatus_of_fail bad]

/-- Settles O43: a command that passes its checks is the frame handed to TRANSMIT. -/
theorem sendCmdTransmitsTheCommandFrame : Obligations.SendCmdTransmitsTheCommandFrame := by
  refine ⟨fun _ _ _ _ => decode_append_zeros (op := 0x34) rfl, fun s id opsel arg op init near listed =>
    ⟨csBytes s.timer s.now, wireTime_csBytes s, fun ok => ?_, fun bad => ?_⟩⟩
  · rw [exec_sendCmd_of_legal init near listed, transmit_of_ok ok]
  · rw [exec_sendCmd_of_legal init near listed, transmit_of_fail bad]

end Sys2Proof.Machine
end

section
/-! The receive path (45_rxpath.md): what a flush, POLL, FLUSH and RX_FW come to for each count of waiting bytes and
each answer of `Read`, the pieces they write, and the statements about the three settled from them. -/

namespace Sys2Proof.Machine

open Sys2Proof

section
variable {s : State}

/-! ### Discarding -/

/-- With a `Read` that succeeds the waiting bytes are flushed (45_rxpath.md R202). -/
theorem flushBytes_avail_of_ok (v : Word64) (ok : s.readOk = true) :
    flushBytes (avail s) v s = answered 0 { s with rxq := [], evq := s.evq ++ [.frameFlushRequired], res := v } := by
  obtain ⟨-, flushed⟩ | ⟨bad, -⟩ := flushBytes_avail v s
  · exact flushed
  · simp [ok] at bad

/-- With a `Read` that fails nothing is discarded (45_rxpath.md R205). -/
theorem flushBytes_of_fail (n : Nat) (v : Word64) (bad : s.readOk = false) : flushBytes n v s = notRead s := by
  rw [flushBytes, read_of_fail bad, transportFault_eq_notRead]

theorem flushCount_toNat {n : Nat} (fits : n < 2 ^ 64) : (flushCount n).toNat = n := by
  rw [flushCount, if_pos fits, BitVec.toNat_ofNat, Nat.mod_eq_of_lt fits]

/-! ### POLL -/

theorem exec_poll_of_empty (empty : s.rxq = []) : exec .poll s = .next (answered 0 { s with res := 0 }) := by
  simp [exec, execPoll, avail, empty, complete_eq_answered, setRes]

theorem exec_poll_of_unaligned (unaligned : s.rxq.length % 13 ≠ 0) :
    exec .poll s = .next (flushBytes (avail s) 2 s) := if_pos unaligned

/-- POLL needs its `Read` whenever bytes wait: all of them when they are to be flushed, and 13 otherwise. -/
theorem exec_poll_of_fail (waiting : s.rxq ≠ []) (bad : s.readOk = false) : exec .poll s = .next (notRead s) := by
  by_cases aligned : s.rxq.length % 13 = 0
  · simp [exec, execPoll, avail, aligned, waiting, read_of_fail bad, transportFault_eq_notRead]
  · rw [exec_poll_of_unaligned aligned, flushBytes_of_fail _ _ bad]

/-- With whole frames waiting POLL is UPDATE after the first of them is taken and decoded (45_rxpath.md R200, R201). -/
theorem exec_poll_of_frame {frame rest : List Byte} {f : RxTel} (queue : s.rxq = frame ++ rest)
    (len : frame.length = 13) (aligned : rest.length % 13 = 0) (ok : s.readOk = true)
    (decoded : decodeTelemetry frame = some f) :
    exec .poll s = exec .update { s with rxq := rest, rxt := { valid := true, frame := f }, res := 1 } := by
  have count : avail s = 13 + rest.length := by rw [avail, queue, List.length_append, len]
  have taken : read 13 s = .got frame { s with rxq := rest } := by
    rw [read_of_ok (by simp [queue, len]) ok, queue, ← len, List.take_left, List.drop_left]
  simp only [exec, execPoll]
  rw [if_neg (by omega), if_neg (by omega)]
  simp only [taken, decoded]
  rfl

/-- UPDATE of a frame whose id is a slot's replaces that slot and appends events (43_registry.md R160). -/
theorem exec_update_of_slot {i : Fin 21} (valid : s.rxt.valid = true) (slot : s.rxt.frame.id.toNat = i.val) :
    ∃ es, exec .update s = .next (answered 0 { s with
      cars := s.cars.set i { known := true, car := unpackFrame s.rxt.frame }, evq := s.evq ++ es }) := by
  obtain ⟨_, _, -, -, updated⟩ := updateDiffsReplacesAndAggregates.2 s i valid slot
  exact ⟨_, by rw [updated, List.append_assoc]⟩

/-! ### FLUSH -/

/-- FLUSH needs no `Read` when nothing waits, and its effects are the same (45_rxpath.md R203). -/
theorem exec_flush_of_ok (h : s.rxq = [] ∨ s.readOk = true) :
    exec .flush s = .next (answered 0 { s with
      rxq := [], evq := s.evq ++ [.frameFlushRequired], res := flushCount s.rxq.length }) := by
  by_cases empty : s.rxq = []
  · simp [exec, execFlush, avail, empty, flushCount, complete_eq_answered, answered, setRes, emit]
  · rw [exec, execFlush, if_neg (by simpa [avail] using empty), flushBytes_avail_of_ok _ (h.resolve_left empty), avail]

theorem exec_flush_of_fail (waiting : s.rxq ≠ []) (bad : s.readOk = false) : exec .flush s = .next (notRead s) := by
  simp [exec, execFlush, avail, waiting, flushBytes_of_fail _ _ bad]

/-! ### RX_FW -/

theorem exec_rxFw_of_short (short : s.rxq.length < 5) (ok : s.readOk = true) : exec .rxFw s = .next s := by
  rw [exec, execRxFw, read_of_short short ok]

theorem exec_rxFw_of_fail (bad : s.readOk = false) : exec .rxFw s = .next (notRead s) := by
  rw [exec, execRxFw, read_of_fail bad, transportFault_eq_notRead]

theorem exec_rxFw_of_frame {major minor x y z : Byte} {rest : List Byte}
    (queue : s.rxq = major :: minor :: x :: y :: z :: rest) (ok : s.readOk = true) :
    exec .rxFw s =
      .next (answered 0 { s with rxq := rest, fwv := { valid := true, major := major, minor := minor } }) := by
  have taken : read 5 s = .got [major, minor, x, y, z] { s with rxq := rest } := by
    rw [read_of_ok (by simp [queue]) ok, queue]
    rfl
  rw [exec, execRxFw, taken]
  rfl

/-! ### What the receive path writes -/

/-- An operation with `RXQ` among its pieces is one of the receive path (20_memory.md R51). -/
theorem mem_rxOps_of_writes {i : Instr} (h : .rxq ∈ writes i) : i ∈ [Instr.poll, .flush, .rxFw] := by
  cases i <;> simp [writes] at h ⊢

/-- The receive path writes no piece of the context, the timer or the transmit side (45_rxpath.md R206). -/
theorem writes_rxOps_subset {i : Instr} (receives : i ∈ [Instr.poll, .flush, .rxFw]) :
    writes i ⊆ [.cars, .rxt, .fwv, .res, .rxq] := by
  simp only [List.mem_cons, List.not_mem_nil, or_false] at receives
  obtain rfl | rfl | rfl := receives <;> decide

/-- What the receive path leaves of `RXQ` is a tail of it (20_memory.md R51). -/
theorem exec_rxq_suffix {i : Instr} {t : State} (h : exec i s = .next t)
    (receives : i ∈ [Instr.poll, .flush, .rxFw]) : t.rxq <:+ s.rxq := by
  have e := exec_effect h
  simp only [List.mem_cons, List.not_mem_nil, or_false] at receives
  obtain rfl | rfl | rfl := receives
  · obtain ⟨-, rfl⟩ | ⟨-, rfl⟩ | ⟨-, rfl⟩ | ⟨f, -, -, -, rfl⟩ := e
    · exact List.suffix_rfl
    · exact List.suffix_rfl
    · exact List.nil_suffix
    · rw [show (update _).rxq = _ from (update_effect _).piece (p := .rxq) nofun]
      exact List.drop_suffix 13 s.rxq
  · obtain ⟨-, rfl⟩ | ⟨v, -, rfl⟩ := e
    · exact List.suffix_rfl
    · exact List.nil_suffix
  · obtain ⟨-, -, rfl⟩ | ⟨-, rfl⟩ | ⟨a, b, -, -, rfl⟩ := e
    · exact List.suffix_rfl
    · exact List.suffix_rfl
    · exact List.drop_suffix 5 s.rxq

end

/-! ### The statements -/

/-- Settles O45: an empty stream needs no `Read`, and an unaligned one is flushed by a `Read` of all its bytes. -/
theorem pollIdlesOrFlushes : Obligations.PollIdlesOrFlushes := by
  refine ⟨fun buf => decode_of_op (op := 0x40) (by decide) rfl, fun s =>
    ⟨exec_poll_of_empty, fun unaligned ok => ?_, exec_poll_of_fail⟩⟩
  rw [exec_poll_of_unaligned unaligned, flushBytes_avail_of_ok 2 ok]

/-- Settles O46: the first 13 bytes decode, and what follows is UPDATE of the frame they decode to. -/
theorem pollTakesOneFrameAndUpdates : Obligations.PollTakesOneFrameAndUpdates := by
  intro s frame rest queue len aligned ok
  obtain ⟨f, decoded⟩ := decodeTelemetry_isSome len
  have polled := exec_poll_of_frame queue len aligned ok decoded
  refine ⟨f, decoded, polled, fun far => ?_, fun near => ?_⟩
  · exact polled.trans ((updateFaultsChangeNoSlot _).2 rfl far)
  · obtain ⟨es, updated⟩ := exec_update_of_slot (i := ⟨f.id.toNat, by omega⟩)
      (s := { s with rxq := rest, rxt := { valid := true, frame := f }, res := 1 }) rfl rfl
    exact ⟨_, es, rfl, polled.trans updated⟩

/-- Settles O47: the count written is that of the bytes that waited, which `RES` holds when it fits. -/
theorem flushDiscardsEverything : Obligations.FlushDiscardsEverything :=
  ⟨fun _ => decode_of_op (op := 0x41) (by decide) rfl, fun _ =>
    ⟨fun h => ⟨_, flushCount_toNat, exec_flush_of_ok h⟩, exec_flush_of_fail⟩⟩

/-- Settles O55: the pieces named are not among those the three write, and no other operation writes `RXQ`. -/
theorem receivePathOnlyReceives : Obligations.ReceivePathOnlyReceives := by
  intro i s t h
  refine ⟨fun receives => ?_, fun other => exec_keeps h (p := .rxq) (mt mem_rxOps_of_writes other)⟩
  obtain ⟨taken, queue⟩ := exec_rxq_suffix h receives
  have keeps (p : Piece) (hp : p ∉ [Piece.cars, .rxt, .fwv, .res, .rxq]) : t.piece p = s.piece p :=
    exec_keeps h fun hw => hp (writes_rxOps_subset receives hw)
  exact ⟨keeps .rs (by decide), keeps .sc (by decide), keeps .ctxValid (by decide), keeps .timer (by decide),
    keeps .txq (by decide), keeps .txb (by decide), taken, queue.symm⟩

/-- Settles O48: five bytes are a firmware frame whatever they are, and `Read` is asked before they are counted. -/
theorem rxFwTakesFiveBytes : Obligations.RxFwTakesFiveBytes :=
  ⟨fun _ => decode_of_op (op := 0x42) (by decide) rfl, fun _ =>
    ⟨fun _ _ _ _ _ _ => exec_rxFw_of_frame, exec_rxFw_of_fail⟩⟩

/-- Settles O49: a blocked `Read` changes nothing, and the outside world only adds requests behind the one held. -/
theorem rxFwIsHeldWhileBytesAreMissing : Obligations.RxFwIsHeldWhileBytesAreMissing := by
  intro s r rest port decoded short ok
  have held := exec_rxFw_of_short short ok
  refine ⟨held, stepRunsTheDecodedOperation s s r rest .rxFw port decoded held, rest ++ (nextMoment s).reqs, ?_⟩
  simp [worldMove, port]

end Sys2Proof.Machine
end

section
/-! What an operation that took no fault before its effects answers and emits (60_exceptions.md R225, R230), and that
every operation answers a next state (R227). -/

namespace Sys2Proof.Machine

open Sys2Proof

variable {i : Instr} {s t u : State}

/-! ### Answers and events -/

/-- The operation got past its checks: it answers 0, `TransportError`, or the `CarIdRangeError` of a POLL, whose UPDATE
checks the id after the frame was taken; and events were only appended, none of them `DongleConnected(true)`. -/
structure Performed (i : Instr) (s t : State) : Prop where
  answer : ∃ k, t.rspq = s.rspq ++ [k] ∧ (k = 0 ∨ k = 7 ∨ i = .poll ∧ k = 2)
  events : ∃ es, t.evq = s.evq ++ es ∧ Event.dongleConnected true ∉ es

/-- Completing an operation that emits nothing. -/
theorem performed_quietly (hr : t.rspq = s.rspq ++ [0]) (he : t.evq = s.evq) : Performed i s t :=
  ⟨⟨0, hr, .inl rfl⟩, [], by simpa using he, by simp⟩

/-- POLL and FLUSH emit `FrameFlushRequired` when they flush (45_rxpath.md R201, R203). -/
theorem performed_flushed (v : Word64) :
    Performed i s (answered 0 { s with rxq := [], evq := s.evq ++ [.frameFlushRequired], res := v }) :=
  ⟨⟨0, rfl, .inl rfl⟩, _, rfl, by simp⟩

theorem performed_notRead (s : State) : Performed i s (notRead s) := ⟨⟨7, rfl, .inr (.inl rfl)⟩, _, rfl, by simp⟩

/-- A frame is transmitted after at most a write of a register. -/
theorem Transmitted.performed (h : Transmitted u t) (hr : u.rspq = s.rspq) (he : u.evq = s.evq) : Performed i s t := by
  obtain ⟨f, ⟨-, rfl⟩ | ⟨-, rfl⟩⟩ := h
  · exact ⟨⟨0, hr ▸ rfl, .inl rfl⟩, [.transmitReady f], he ▸ rfl, by simp⟩
  · exact ⟨⟨7, hr ▸ rfl, .inr (.inl rfl)⟩, [.transmitReady f, .dongleConnected false], he ▸ rfl, by simp⟩

/-- The per-car events are of the kinds NewLap, PitEnter and PitLeave (43_registry.md R164, R166). -/
theorem dongleConnected_notMem_diffEvents (c suppress : Bool) (old : Slot) (new : CarState) :
    Event.dongleConnected c ∉ diffEvents suppress old new := by
  rw [diffEvents_eq]
  split_ifs <;> simp

theorem dongleConnected_notMem_aggregateEvents (c : Bool) (cars : Vector Slot 21) :
    Event.dongleConnected c ∉ aggregateEvents cars := by
  simp [aggregateEvents]

/-- Replacing a slot emits its per-car events and the two aggregates (43_registry.md R160), after at most a write of
other pieces. -/
theorem performed_updateSlot (suppress : Bool) (j : Fin 21) (new : CarState) (hr : u.rspq = s.rspq)
    (he : u.evq = s.evq) : Performed i s (complete (updateSlot suppress j new u)) := by
  refine ⟨⟨0, by simp [updateSlot, hr], .inl rfl⟩,
    diffEvents suppress u.cars[j] new ++ aggregateEvents (updateSlot suppress j new u).cars, ?_, ?_⟩
  · simp [updateSlot, he]
  · simp [dongleConnected_notMem_diffEvents, dongleConnected_notMem_aggregateEvents]

/-- Once a frame is in `RXT` an UPDATE, and so a POLL, can only find its id out of range (43_registry.md R161). -/
theorem performed_poll_update (valid : u.rxt.valid = true) (hr : u.rspq = s.rspq) (he : u.evq = s.evq) :
    Performed .poll s (update u) := by
  by_cases far : 20 < u.rxt.frame.id.toNat
  · rw [update_of_id_gt valid far]
    exact ⟨⟨2, hr ▸ rfl, .inr (.inr ⟨rfl, rfl⟩)⟩, [], by simpa using he, by simp⟩
  · rw [update_of_slot (i := ⟨u.rxt.frame.id.toNat, by omega⟩) valid rfl]
    exact performed_updateSlot _ _ _ hr he

/-- An operation is held, or takes a fault before any effect, or has its effects. -/
theorem exec_performed (h : exec i s = .next t) : t = s ∨ PreciseFault s t ∨ Performed i s t := by
  have e := exec_effect h
  cases i <;> simp only [ExecEffect] at e
  case rxFw =>
    obtain ⟨-, -, held⟩ | ⟨-, rfl⟩ | ⟨a, b, -, -, rfl⟩ := e
    · exact .inl held
    · exact .inr (.inr (performed_notRead s))
    · exact .inr (.inr (performed_quietly rfl rfl))
  all_goals right
  case setState | setSpeed | sendStatus | sendCmd | sendFwreq | sendFree =>
    exact (exec_transmits h (by simp [writes])).imp_right fun ⟨r, sent⟩ => sent.performed rfl rfl
  case update =>
    obtain fault | ⟨j, -, -, rfl⟩ := e
    · exact .inl fault
    · exact .inr (performed_updateSlot _ j _ rfl rfl)
  case decTel | decFw | unpack | rdCar | init =>
    obtain fault | ⟨_, _, rfl⟩ := e
    · exact .inl fault
    · exact .inr (performed_quietly rfl rfl)
  case encStatus | encCmd | setConfig =>
    obtain fault | ⟨_, rfl⟩ := e
    · exact .inl fault
    · exact .inr (performed_quietly rfl rfl)
  all_goals right
  case tStart | tPause | tResume | tStop =>
    subst e
    exact performed_quietly rfl rfl
  case encFwreq | encFree | tValue | tValueCs | tBytes =>
    obtain ⟨_, rfl⟩ := e
    exact performed_quietly rfl rfl
  case poll =>
    obtain ⟨-, rfl⟩ | ⟨-, rfl⟩ | ⟨-, rfl⟩ | ⟨f, -, -, -, rfl⟩ := e
    · exact performed_quietly rfl rfl
    · exact performed_notRead s
    · exact performed_flushed 2
    · exact performed_poll_update rfl rfl rfl
  case flush =>
    obtain ⟨-, rfl⟩ | ⟨v, -, rfl⟩ := e
    · exact performed_notRead s
    · exact performed_flushed v

/-- A fault appends no event, and neither does a held RX_FW. -/
theorem exec_events (h : exec i s = .next t) : ∃ es, t.evq = s.evq ++ es ∧ Event.dongleConnected true ∉ es := by
  obtain rfl | ⟨f, -, rfl⟩ | done := exec_performed h
  · exact ⟨[], by simp⟩
  · exact ⟨[], by simp⟩
  · exact done.events

/-! ### Every operation has a next state -/

/-- POLL answers a next state whatever its `Read` and the decoder come to. -/
theorem execPoll_next (s : State) : ∃ t, execPoll s = .next t := by
  simp only [execPoll]
  split
  · exact ⟨_, rfl⟩
  · split
    · exact ⟨_, rfl⟩
    · split
      · exact ⟨_, rfl⟩
      · exact ⟨_, rfl⟩
      · split <;> exact ⟨_, rfl⟩

/-- RX_FW answers a next state whatever its `Read` and the decoder come to, the state it is held in included. -/
theorem execRxFw_next (s : State) : ∃ t, execRxFw s = .next t := by
  unfold execRxFw
  split
  · exact ⟨_, rfl⟩
  · exact ⟨_, rfl⟩
  · split <;> exact ⟨_, rfl⟩

/-- No operation stops the model: after its checks, none, one or two, each branch is a next state. -/
theorem exec_next (i : Instr) (s : State) : ∃ t, exec i s = .next t := by
  cases i <;> simp only [exec]
  case encFwreq | encFree | tStart | tPause | tResume | tStop | tValue | tValueCs | tBytes | update | sendFwreq |
      sendFree => exact ⟨_, rfl⟩
  case decTel | decFw | unpack | encStatus | encCmd | setSpeed | sendStatus | sendCmd | init | flush =>
    simp only [execDecTel, execDecFw, execUnpack, execEncStatus, execEncCmd, execSetSpeed, execSendStatus, execSendCmd,
      execInit, execFlush]
    split <;> exact ⟨_, rfl⟩
  case rdCar =>
    unfold execRdCar
    split
    · exact ⟨_, rfl⟩
    · split <;> exact ⟨_, rfl⟩
  case setState | setConfig =>
    simp only [execSetState, execSetConfig]
    split
    · split <;> exact ⟨_, rfl⟩
    · exact ⟨_, rfl⟩
  case poll => exact execPoll_next s
  case rxFw => exact execRxFw_next s

end Sys2Proof.Machine
end

section
/-! The statements of 60_exceptions.md settled: fault entry (R220, R225), the precision of faults (R225), the totality of
the step (R225, R227) and the event stream (R230). -/

namespace Sys2Proof.Machine

open Sys2Proof

/-- Settles O10: the outside world moves after whatever the operation, a fault or idling left. -/
theorem everyStepIsANextState : Obligations.EveryStepIsANextState := by
  intro s
  unfold step
  split
  · exact ⟨_, rfl⟩
  · split
    · exact ⟨_, rfl⟩
    next i _ =>
      obtain ⟨t, ran⟩ := exec_next i s
      exact ⟨worldMove t, by simp only [ran]⟩

/-- Settles O11: the state is fault entry's own, and the bit is read off the shift. -/
theorem faultEntryRecordsTheCode : Obligations.FaultEntryRecordsTheCode :=
  ⟨fun f s => ⟨rfl, fun j _ => (faulted_raise f s).getLsbD_errseen j, rfl⟩, rfl⟩

/-- Settles O14: an operation that had its effects, or was held, gives none of the answers in question. -/
theorem faultsArePrecise : Obligations.FaultsArePrecise := by
  intro i s t k h hr fault transport poll
  obtain rfl | ⟨f, -, rfl⟩ | ⟨⟨k', hr', answer⟩, -⟩ := exec_performed h
  · simp at hr
  · obtain rfl : codeOf f = k := by simpa using hr
    rfl
  · obtain rfl : k' = k := by simpa [hr'] using hr
    exact absurd answer (not_or.mpr ⟨fault, not_or.mpr ⟨transport, poll⟩⟩)

/-- Settles O53: of the parts of a step only the operation emits events. -/
theorem eventsAreOnlyAppended : Obligations.EventsAreOnlyAppended := by
  intro s t h
  obtain ⟨-, rfl⟩ | ⟨_, _, _, -, -, rfl⟩ | ⟨_, _, i, u, -, -, ran, rfl⟩ := step_cases h
  · exact ⟨[], by simp⟩
  · exact ⟨[], by simp⟩
  · exact exec_events (t := u) ran

end Sys2Proof.Machine
end

section
/-! Reset and hazards (70_reset_and_hazards.md): the idle block (R251), the operations that read a context never given
(R252), and a closed transport (R253), with the statements about them settled. -/

namespace Sys2Proof.Machine

open Sys2Proof

variable {i : Instr} {s t : State}

/-! ### Before INIT -/

/-- The context is the first check of a command (41_codec_tx.md R128). -/
theorem commandFrame_of_invalid {id opsel arg : Byte} {tb : TimerBytes} (invalid : s.ctxValid = false) :
    commandFrame id opsel arg tb s = .error .notInit := if_pos invalid

/-! ### A closed transport -/

/-- Bytes leave `RXQ` only by a `Read` that succeeds (20_memory.md R51, R53). -/
theorem exec_rxq_of_fail (h : exec i s = .next t) (bad : s.readOk = false) : t.rxq = s.rxq := by
  by_cases hw : .rxq ∈ writes i
  case neg => exact exec_keeps h (p := .rxq) hw
  have notOk : ¬s.readOk = true := Bool.eq_false_iff.mp bad
  have e := exec_effect h
  have receives := mem_rxOps_of_writes hw
  simp only [List.mem_cons, List.not_mem_nil, or_false] at receives
  obtain rfl | rfl | rfl := receives
  · obtain ⟨-, rfl⟩ | ⟨-, rfl⟩ | ⟨ok, -⟩ | ⟨_, -, ok, -⟩ := e
    · rfl
    · rfl
    · exact absurd ok notOk
    · exact absurd ok notOk
  · obtain ⟨-, rfl⟩ | ⟨_, empty | ok, rfl⟩ := e
    · rfl
    · exact empty.symm
    · exact absurd ok notOk
  · obtain ⟨-, ok, -⟩ | ⟨-, rfl⟩ | ⟨_, _, -, ok, -⟩ := e
    · exact absurd ok notOk
    · rfl
    · exact absurd ok notOk

/-- A frame reaches `TXQ` only by a `Write` that succeeds (20_memory.md R52, R53). -/
theorem exec_txq_of_fail (h : exec i s = .next t) (bad : s.writeOk = false) : t.txq = s.txq := by
  by_cases hw : .txq ∈ writes i
  case neg => exact exec_keeps h (p := .txq) hw
  obtain fault | ⟨r, f, ⟨ok, -⟩ | ⟨-, rfl⟩⟩ := exec_transmits h hw
  · exact fault.piece (p := .txq)
  · exact absurd ok (Bool.eq_false_iff.mp bad)
  · rfl

/-- No operation is held by a `Read` that fails: its request leaves the port (45_rxpath.md R204, R205). -/
theorem exec_reqs_of_fail (h : exec i s = .next t) (bad : s.readOk = false) : t.reqs = s.reqs.tail := by
  obtain ⟨_, -, -, retired⟩ | ⟨-, -, ok, -⟩ := exec_responds h
  · exact retired
  · exact absurd ok (Bool.eq_false_iff.mp bad)

/-! ### The statements -/

/-- Settles O60: bytes need a `Read` and a frame a `Write`, and RX_FW asks `Read` before it counts the bytes. -/
theorem closedTransportMovesNothing : Obligations.ClosedTransportMovesNothing := by
  intro i s t noRead noWrite h
  refine ⟨exec_rxq_of_fail h noRead, exec_txq_of_fail h noWrite, exec_reqs_of_fail h noRead, ?_⟩
  rintro rfl
  rw [exec_rxFw_of_fail noRead] at h
  cases h
  rfl

/-- Settles O8: without a request the step takes its first branch. -/
theorem idleBlockOnlyLetsTheWorldMove : Obligations.IdleBlockOnlyLetsTheWorldMove := by
  intro s idle
  rw [step, idle]

/-- Settles O23: the context is the first check of each of the seven, and the two commands share it. -/
theorem contextReadersNeedInit : Obligations.ContextReadersNeedInit := by
  intro s a b c d e f invalid
  have unset : ¬s.ctxValid = true := Bool.eq_false_iff.mp invalid
  have command (id opsel arg tb0 tb1 tb2 : Byte) :=
    exec_of_commandFrame_error (id := id) (opsel := opsel) (arg := arg)
      (fun _ => commandFrame_of_invalid invalid) tb0 tb1 tb2
  exact ⟨if_neg unset, (command a b c d e f).1, if_neg unset, if_neg unset, if_neg unset, if_neg unset,
    (command a b c d e f).2⟩

end Sys2Proof.Machine
end
